-- ==== Sys2Proof/Word.lean ====
section
/-! DEFINITION. The word types of the block (00_scope.md R10, R12, R18): every value is an unsigned integer. -/

namespace Sys2Proof

/-- A byte: a frame byte, an acknowledgment byte, an image byte, the checksum register. -/
abbrev Byte := BitVec 8

/-- A 32-bit register of the register view, and an address of IMAGE_MEM (R22, R60). -/
abbrev Word := BitVec 32

/-- A 24-bit block count or block index (R10). -/
abbrev BlockNum := BitVec 24

end Sys2Proof
end

