-- ==== Sys2Proof/Config.lean ====
section
/-! DEFINITION. The parameters of 00_scope.md R9: the fixed values, the open parameters (no rule reads them) and the
free value of the model. -/

namespace Sys2Proof.Config

/-- `POLYNOMIAL` (R9, R110). -/
@[simp] abbrev polynomial : Byte := 0xB2#8

/-- `START_MARKER` (R9, R130). -/
@[simp] abbrev startMarker : Byte := 0xAA#8

/-- `END_MARKER` (R9, R130). -/
@[simp] abbrev endMarker : Byte := 0x55#8

/-- `CMD_ALLOCATE_MEMORY` (R9, R89). -/
@[simp] abbrev cmdAllocateMemory : Byte := 0x01#8

/-- `CMD_BINARY_BLOCK` (R9, R89). -/
@[simp] abbrev cmdBinaryBlock : Byte := 0x02#8

/-- `CMD_BINARY_BLOCK_LAST` (R9, R89). -/
@[simp] abbrev cmdBinaryBlockLast : Byte := 0x03#8

/-- `ACK_SUCCESS` (R9, R138). -/
@[simp] abbrev ackSuccess : Byte := 0x00#8

/-- `BLOCK_SIZE`, bytes (R9). -/
@[simp] abbrev blockSize : Nat := 512

/-- `MAX_PAYLOAD`, bytes (R9, R132). -/
@[simp] abbrev maxPayload : Nat := 65535

/-- `ALLOC_PAYLOAD_LEN`, bytes (R9, R85). -/
@[simp] abbrev allocPayloadLen : Nat := 4

/-- `FRAME_OVERHEAD`, bytes (R9, R94). -/
@[simp] abbrev frameOverhead : Nat := 6

/-- `MAX_IMAGE_LEN`, bytes (R9, R163, R171). -/
@[simp] abbrev maxImageLen : Nat := 0xFFFFFE00

/-- The number of byte addresses of IMAGE_MEM: addresses are 32 bits (R60). -/
@[simp] abbrev imageSpace : Nat := 4294967296

/-- The default of `ACK_TIMEOUT` in milliseconds: one second (R9, R245). No rule reads it. -/
abbrev ackTimeoutDefaultMs : Nat := 1000

/-- The default of `LINK_BAUD` (R9). No rule reads it. -/
abbrev linkBaudDefault : Nat := 230400

/-- `ACK_TIMEOUT`, owned by the link; no rule reads it (R9, R11, R281; log 10). -/
opaque ackTimeoutMs : Nat

/-- `LINK_BAUD`, owned by the link; no rule reads it (R9, R11, R281; log 10). -/
opaque linkBaud : Nat

/-- `LINK_BIT_ORDER`, true for least significant bit first; no rule reads it (R71; log 10). -/
opaque linkLsbFirst : Bool

/-- `REG_BASE`; no rule reads it (R75; log 10). -/
opaque regBase : Nat

/-- `IMAGE_BASE`; no rule reads it (R75; log 10). -/
opaque imageBase : Nat

/-- FREE VALUE (log 2): what an IMAGE_MEM byte holds that the host has not loaded, "any value" (R43, I9). It is a
function of the address, because an unwritten byte keeps its value from read to read. -/
opaque unloadedByte : Nat → Byte

end Sys2Proof.Config
end

