-- ==== Sys2Proof/Syntax.lean ====
section
/-! DEFINITION. The operations of the block: one constructor of `Instr` per row of spec/opcode_table.json, and the
encoded words of the four formats they arrive in (30_encoding.md R80). -/

namespace Sys2Proof

/-- The twelve operations of the opcode table. Register offsets and codes keep the widths of R88 and R96. -/
inductive Instr where
  /-- FRAME_ALLOCATE_MEMORY (R133): header AA 01 04 00. The payload is ALLOC_SIZE's, not an operand. -/
  | frameAllocateMemory
  /-- FRAME_BINARY_BLOCK (R134): header AA 02 00 02. The payload is the image slice of the block sent. -/
  | frameBinaryBlock
  /-- FRAME_BINARY_BLOCK_LAST (R135): header AA 03 LEN; `len` is the Length field (header bits 31:16). -/
  | frameBinaryBlockLast (len : BitVec 16)
  /-- ACK_SUCCESS (R138): RXEV with V = 1, STATUS = 0. -/
  | ackSuccess
  /-- ACK_ERROR (R139): RXEV with V = 1, STATUS = `code`, nonzero. -/
  | ackError (code : Byte)
  /-- ACK_TIMEOUT (R180): RXEV with V = 0, STATUS = 0. -/
  | ackTimeout
  /-- HOST_START (R170): a write of CTRL with DATA bit 0 set; `ignored` is DATA bits 31:1 (R97). -/
  | hostStart (ignored : BitVec 31)
  /-- HOST_CTRL_NOP (R23): a write of CTRL with DATA bit 0 clear; `ignored` is DATA bits 31:1. -/
  | hostCtrlNop (ignored : BitVec 31)
  /-- HOST_WRITE_IMAGE_LEN (R185): a write of IMAGE_LEN with DATA = `len`. -/
  | hostWriteImageLen (len : Word)
  /-- HOST_WRITE_IGNORED (R24): a write of a read-only or reserved offset; `data` is ignored. -/
  | hostWriteIgnored (off : BitVec 6) (data : Word)
  /-- HOST_READ (R186): a read of the register at offset `off`. -/
  | hostRead (off : BitVec 6)
  /-- RESET (R270): the `rst` pin. -/
  | reset
deriving DecidableEq, Repr

/-- An encoded operation, as it stands on the interface it arrives on (R80): the FRAME selector is the 32-bit
little-endian value of frame bytes 0 to 3. -/
inductive OpWord where
  | frame (header : BitVec 32)
  | rxev (event : BitVec 9)
  | hostop (op : BitVec 39)
  | pin (rst : BitVec 1)
deriving DecidableEq, Repr

/-- Why a word is no operation of the block. -/
inductive DecodeError where
  /-- FRAME whose byte 0 is not 0xAA (R81, R130). -/
  | badStart
  /-- FRAME with CMD 0x00 or 0x04 to 0xFF (R91). -/
  | reservedCommand
  /-- FRAME with CMD 0x01 and a Length other than 4 (R89). -/
  | badAllocLength
  /-- FRAME with CMD 0x02 and a Length other than 512 (R89). -/
  | badBlockLength
  /-- RXEV with V = 0 and STATUS nonzero (R88, R93). -/
  | timeoutWithStatus
  /-- HOSTOP whose offset is no multiple of 4 (R64, R93). -/
  | misalignedOffset
  /-- HOSTOP read whose DATA is not 0 (R96; DESIGN CHOICE, log 16). -/
  | readWithData
  /-- The `rst` pin at 0: no reset is asserted (R98). -/
  | resetNotAsserted
deriving DecidableEq, Repr

end Sys2Proof
end

