-- ==== Sys2Proof/WellFormed.lean ====
section
/-! DEFINITION. Which terms of `Instr` are operations of the opcode table: the ranges of its operand fields. -/

namespace Sys2Proof

/-- A register offset that an access may name: a multiple of 4 (R64, R93). -/
def offsetAligned (off : BitVec 6) : Bool := off.extractLsb' 0 2 == 0#2

/-- An offset of HOST_WRITE_IGNORED: aligned, and neither CTRL nor IMAGE_LEN (R96). -/
def offsetWriteIgnored (off : BitVec 6) : Bool := offsetAligned off && off != 0x00#6 && off != 0x08#6

/-- The Length of a BinaryBlockLast frame: 1 to 512 (R86, R89). -/
def lastLengthLegal (len : BitVec 16) : Bool := decide (1 ≤ len.toNat) && decide (len.toNat ≤ Config.blockSize)

/-- The operand checks of the opcode table, one line per constructor. -/
def Instr.wellFormed : Instr → Bool
  | .frameAllocateMemory => true
  | .frameBinaryBlock => true
  | .frameBinaryBlockLast len => lastLengthLegal len
  | .ackSuccess => true
  | .ackError code => code != Config.ackSuccess
  | .ackTimeout => true
  | .hostStart _ => true
  | .hostCtrlNop _ => true
  | .hostWriteImageLen _ => true
  | .hostWriteIgnored off _ => offsetWriteIgnored off
  | .hostRead off => offsetAligned off
  | .reset => true

/-- `WellFormed i`: `i` is an operation of the table. -/
abbrev WellFormed (i : Instr) : Prop := i.wellFormed = true

end Sys2Proof
end

