-- ==== Sys2Proof/Decode.lean ====
section
/-! DEFINITION. From encoded words to operations and back (30_encoding.md R80 to R98), the RXEV word of a link read
(R88) and the HOSTOP word of a register access (R96). -/

namespace Sys2Proof

/-- FRAME selector: START, CMD and Length of the header (R81, R84, R89, R91). The table's row 0x03 fixes header bits
15:0 only, so every Length is taken there (log 11). -/
def decodeFrame (header : BitVec 32) : Except DecodeError Instr :=
  let start := header.extractLsb' 0 8
  let cmd := header.extractLsb' 8 8
  let len := header.extractLsb' 16 16
  if start ≠ Config.startMarker then .error .badStart
  else if cmd = Config.cmdAllocateMemory then
    if len = 4#16 then .ok .frameAllocateMemory else .error .badAllocLength
  else if cmd = Config.cmdBinaryBlock then
    if len = 512#16 then .ok .frameBinaryBlock else .error .badBlockLength
  else if cmd = Config.cmdBinaryBlockLast then .ok (.frameBinaryBlockLast len)
  else .error .reservedCommand

/-- RXEV: bit 8 is V, bits 7:0 are STATUS (R88). -/
def decodeRxev (event : BitVec 9) : Except DecodeError Instr :=
  let status := event.extractLsb' 0 8
  if event.extractLsb' 8 1 = 1#1 then
    if status = Config.ackSuccess then .ok .ackSuccess else .ok (.ackError status)
  else if status = 0#8 then .ok .ackTimeout
  else .error .timeoutWithStatus

/-- HOSTOP: bit 38 is W, bits 37:32 are OFF, bits 31:0 are DATA (R96). A read word with DATA not 0 matches no row of the
table; refusing it is the model's choice (DESIGN CHOICE, log 16). -/
def decodeHostop (op : BitVec 39) : Except DecodeError Instr :=
  let data := op.extractLsb' 0 32
  let off := op.extractLsb' 32 6
  if offsetAligned off = false then .error .misalignedOffset
  else if op.extractLsb' 38 1 = 1#1 then
    if off = 0x00#6 then
      if data.extractLsb' 0 1 = 1#1 then .ok (.hostStart (data.extractLsb' 1 31))
      else .ok (.hostCtrlNop (data.extractLsb' 1 31))
    else if off = 0x08#6 then .ok (.hostWriteImageLen data)
    else .ok (.hostWriteIgnored off data)
  else if data = 0#32 then .ok (.hostRead off)
  else .error .readWithData

/-- The `rst` pin, active high (R98). -/
def decodePin (rst : BitVec 1) : Except DecodeError Instr :=
  if rst = 1#1 then .ok .reset else .error .resetNotAsserted

/-- The operation an encoded word stands for, or the reason it stands for none. -/
def decode : OpWord → Except DecodeError Instr
  | .frame header => decodeFrame header
  | .rxev event => decodeRxev event
  | .hostop op => decodeHostop op
  | .pin rst => decodePin rst

/-- The header of a frame: START, CMD, Length, the first in the least significant byte (R81). -/
def frameHeader (cmd : Byte) (len : BitVec 16) : BitVec 32 := len ++ cmd ++ Config.startMarker

/-- The RXEV word with fields V and STATUS (R88). -/
def rxevWord (v : BitVec 1) (status : Byte) : BitVec 9 := v ++ status

/-- The HOSTOP word with fields W, OFF and DATA (R96). -/
def hostopWord (w : BitVec 1) (off : BitVec 6) (data : Word) : BitVec 39 := w ++ off ++ data

/-- The encoded word of an operation, from the same tables (R81, R88, R96, R98). -/
def encode : Instr → OpWord
  | .frameAllocateMemory => .frame (frameHeader Config.cmdAllocateMemory 4#16)
  | .frameBinaryBlock => .frame (frameHeader Config.cmdBinaryBlock 512#16)
  | .frameBinaryBlockLast len => .frame (frameHeader Config.cmdBinaryBlockLast len)
  | .ackSuccess => .rxev (rxevWord 1#1 Config.ackSuccess)
  | .ackError code => .rxev (rxevWord 1#1 code)
  | .ackTimeout => .rxev (rxevWord 0#1 0#8)
  | .hostStart ignored => .hostop (hostopWord 1#1 0x00#6 (ignored ++ 1#1))
  | .hostCtrlNop ignored => .hostop (hostopWord 1#1 0x00#6 (ignored ++ 0#1))
  | .hostWriteImageLen len => .hostop (hostopWord 1#1 0x08#6 len)
  | .hostWriteIgnored off data => .hostop (hostopWord 1#1 off data)
  | .hostRead off => .hostop (hostopWord 0#1 off 0#32)
  | .reset => .pin 1#1

/-- The RXEV word of one link read: V = 1 and the first byte, or V = 0 and 0 for an empty read; bytes after the
first are not part of the acknowledgment (R67, R87, R88). -/
def rxevOfRead : List Byte → BitVec 9
  | [] => rxevWord 0#1 0#8
  | b :: _ => rxevWord 1#1 b

/-- The HOSTOP word of a register access at the port: DATA is 0 for a read (R96). -/
def hostopOfAccess (write : Bool) (off : BitVec 6) (data : Word) : BitVec 39 :=
  if write then hostopWord 1#1 off data else hostopWord 0#1 off 0#32

/-- The word of a register access of any width at any offset, where it has one: 32 bits wide, at a multiple of 4 in
0x00 to 0x3F (R64). -/
def accessWord (write : Bool) (width offset : Nat) (data : Word) : Option (BitVec 39) :=
  if width = 32 ∧ offset % 4 = 0 ∧ offset ≤ 0x3F then
    some (hostopOfAccess write (BitVec.ofNat 6 offset) data)
  else none

/-- The format a table row of `nbits` bits (in whole bytes) and value `w` is written in (R80): the pin has 1 bit, RXEV
9, FRAME's header 32 and HOSTOP 39. A two-byte value above the nine bits of RXEV is the low half of a FRAME header. -/
def tableWord (nbits w : Nat) : OpWord :=
  if nbits ≤ 8 then .pin (BitVec.ofNat 1 w)
  else if nbits ≤ 16 ∧ w < 512 then .rxev (BitVec.ofNat 9 w)
  else if nbits ≤ 32 then .frame (BitVec.ofNat 32 w)
  else .hostop (BitVec.ofNat 39 w)

/-- What `decode` reads from an operation whose bits, numbered as spec/opcode_table.json numbers them, are `w`. -/
def decodeTableWord (nbits w : Nat) : Option Instr :=
  match decode (tableWord nbits w) with
  | .ok i => some i
  | .error _ => none

end Sys2Proof
end

