-- ==== Sys2Proof/Machine/State.lean ====
section
/-! DEFINITION. The state of the block as plain data (10_state.md, 43_datapath.md R201 and R209), the moves of the
host and the link that `step` reads, and the reasons a step can stop. -/

namespace Sys2Proof.Machine

/-- STATUS.STATE, the control point (R25, R169). -/
inductive UploadState where
  | idle
  | allocateSent
  | uploading
  | complete
  | failed
deriving DecidableEq, Repr

/-- STATUS.ERR_KIND (R27, R240). -/
inductive ErrKind where
  | none
  | transportOpen
  | ackTimeout
  | allocation
  | transfer
deriving DecidableEq, Repr

/-- `ser_phase` (R209). -/
inductive SerPhase where
  | idle
  | sof
  | cmd
  | lenLo
  | lenHi
  | payload
  | fcs
  | eof
deriving DecidableEq, Repr

/-- `ser_src`: where the payload bytes come from (R209, R213). -/
inductive SerSrc where
  | alloc
  | image
deriving DecidableEq, Repr

/-- IMAGE_MEM: the bytes the host has loaded, by address, addresses strictly rising (R60; log 2). -/
abbrev Memory := List Host.Cell

/-- The input ports in one clock cycle (R202). `img_data` is not listed: in a cycle with `img_ack` it IS the byte of
IMAGE_MEM at `img_addr` (R207), which the state holds. -/
structure PortsIn where
  rst : Bool
  regReq : Bool
  regWe : Bool
  regOff : BitVec 6
  regWdata : Word
  linkReady : Bool
  imgAck : Bool
  txReady : Bool
  rxValid : Bool
  rxData : Byte
  rxTimeout : Bool
deriving DecidableEq, Repr

/-- One move of the host or the link (R15, R20, R99). -/
inductive Input where
  /-- An encoded operation, taken in one transaction-level step. -/
  | op (word : OpWord)
  /-- A link read of any number of bytes; none is a timeout (R67). -/
  | rx (raw : List Byte)
  /-- A host register access of any width and offset (R64). -/
  | access (write : Bool) (width offset : Nat) (data : Word)
  /-- The host sets the level of the input `link_ready` (R68). -/
  | linkReady (level : Bool)
  /-- The host writes bytes of IMAGE_MEM from `addr` on (R14, R62). -/
  | loadImage (addr : Word) (bytes : List Byte)
  /-- One clock cycle of the byte-level block with these input ports (R200). -/
  | clock (ports : PortsIn)
deriving DecidableEq, Repr

/-- Faults: conditions the spec says never occur under its rules (R246). All are safe: the model stops where the spec
gives no behaviour. -/
inductive Fault where
  /-- Raised by a block slice or an image-port read at an address not below IMAGE_LEN (R61, I22). Safe. -/
  | readBeyondImage
  /-- Raised by the checksum unit on a load while it is busy (R204, I21). Safe. -/
  | crcLoadBusy
  /-- Raised by EMIT_FRAME while a frame is in emission (R210, R219). Safe. -/
  | serializerBusy
  /-- Raised by a success acknowledgment in Uploading with BLOCK_INDEX above BLOCK_COUNT - 1, for which R187 has no row.
  Safe. -/
  | blockIndexOutside
  /-- Raised by a host load that runs past the last 32-bit address (R60). Safe. -/
  | imageAddressOutside
deriving DecidableEq, Repr

/-- Refusals: moves the spec gives no meaning and says a model refuses. -/
inductive Refusal where
  /-- Raised by `exec` for an operation that has no meaning in the model yet; no arm raises it. Safe. -/
  | notModelled (mnemonic : String)
  /-- Raised by `step` on a word that is no operation (R88, R91, R93, R96). Safe. -/
  | illegalWord (why : DecodeError)
  /-- Raised by a register access that is not 32-bit, aligned and within 0x00 to 0x3F (R64). Safe. -/
  | badRegisterAccess
  /-- Raised by START in Idle with IMAGE_LEN above MAX_IMAGE_LEN (R171). Safe. -/
  | imageTooLong
  /-- Raised by BUILD_FRAME with more than 65535 payload bytes (R132). Safe. -/
  | payloadTooLong
  /-- Raised by a host write of IMAGE_MEM in AllocateSent or Uploading (R62, I13). Safe. -/
  | imageWriteInSession
deriving DecidableEq, Repr

/-- The state: the registers of R22 to R36, the checksum unit (R37, R201), the serializer (R209), the streams (R39),
and the inputs and the read port as plain data (R20, R202). -/
structure State where
  /-- STATUS.STATE (R25). -/
  state : UploadState
  /-- STATUS.ERR_KIND (R27). -/
  errKind : ErrKind
  /-- STATUS.FAIL_STATE (R28). -/
  failState : UploadState
  /-- STATUS.RELEASED (R29). -/
  released : Bool
  /-- IMAGE_LEN (R31). -/
  imageLen : Word
  /-- BLOCK_COUNT (R32). -/
  blockCount : BlockNum
  /-- ALLOC_SIZE (R33). -/
  allocSize : Word
  /-- BLOCK_INDEX (R34). -/
  blockIndex : BlockNum
  /-- ERR_CODE (R35). -/
  errCode : Byte
  /-- ERR_BLOCK (R35). -/
  errBlock : BlockNum
  /-- FRAMES_SENT (R36). -/
  framesSent : Word
  /-- LAST_FCS (R36). -/
  lastFcs : Byte
  /-- `crc` (R37, R201). -/
  crc : Byte
  /-- `crc_cnt` (R37, R201). -/
  crcCnt : BitVec 4
  /-- `ser_phase` (R209). -/
  serPhase : SerPhase
  /-- `ser_cmd` (R209). -/
  serCmd : Byte
  /-- `ser_len` (R209). -/
  serLen : BitVec 16
  /-- `ser_pos` (R209). -/
  serPos : BitVec 16
  /-- `ser_base` (R209). -/
  serBase : Word
  /-- `ser_src` (R209). -/
  serSrc : SerSrc
  /-- The payload byte the image port has returned and the link has not taken (R207, R213; log 5). -/
  serHeld : Option Byte
  /-- `ack_wait` (R209, R216). -/
  ackWait : Bool
  /-- The TX stream: every byte emitted since reset, in order (R39, R66). -/
  tx : List Byte
  /-- What the TX stream held before the last reset: history kept as observation (R270; log 4). -/
  txPast : List Byte
  /-- The level of the input `link_ready` (R68); STATUS.LINK_READY reads it (R30). -/
  linkReady : Bool
  /-- IMAGE_MEM (R60). -/
  image : Memory
  /-- `reg_rdata`: the answer of a HOST_READ, valid in the step of the read (R186, R202; log 6). -/
  regRdata : Option Word
  /-- The moves of the host and the link still to come, the next one first (R20; log 1). -/
  inputs : List Input
deriving DecidableEq, Repr

/-- The state after reset (R42, R43, R209), with nothing loaded, the link not open and no move pending (logs 1, 2, 3,
6). -/
def State.reset : State where
  state := .idle
  errKind := .none
  failState := .idle
  released := false
  imageLen := 0#32
  blockCount := 0#24
  allocSize := 0#32
  blockIndex := 0#24
  errCode := 0#8
  errBlock := 0#24
  framesSent := 0#32
  lastFcs := 0#8
  crc := 0#8
  crcCnt := 0#4
  serPhase := .idle
  serCmd := 0#8
  serLen := 0#16
  serPos := 0#16
  serBase := 0#32
  serSrc := .alloc
  serHeld := none
  ackWait := false
  tx := []
  txPast := []
  linkReady := false
  image := []
  regRdata := none
  inputs := []

end Sys2Proof.Machine
end

