-- ==== Sys2Proof/Machine/Flags.lean ====
section
/-! DEFINITION. The STATUS register (10_state.md R24 to R30): the codes of its fields and its value. The block has no
other flags (R40). -/

namespace Sys2Proof.Machine

/-- The STATE codes (R25). -/
def UploadState.code : UploadState → BitVec 3
  | .idle => 0#3
  | .allocateSent => 1#3
  | .uploading => 2#3
  | .complete => 3#3
  | .failed => 4#3

/-- The ERR_KIND codes (R27, R240). -/
def ErrKind.code : ErrKind → BitVec 3
  | .none => 0#3
  | .transportOpen => 1#3
  | .ackTimeout => 2#3
  | .allocation => 3#3
  | .transfer => 4#3

/-- Complete and Failed are the terminal states (R17, R169). -/
def UploadState.terminal : UploadState → Bool
  | .idle => false
  | .allocateSent => false
  | .uploading => false
  | .complete => true
  | .failed => true

/-- The states with a session under way: AllocateSent and Uploading (R169). -/
def UploadState.inSession : UploadState → Bool
  | .idle => false
  | .allocateSent => true
  | .uploading => true
  | .complete => false
  | .failed => false

/-- STATUS.DONE and the `done` output (R26, R248). -/
def State.done (s : State) : Bool := s.state.terminal

/-- The value of STATUS (R24 to R30): bits 7 and 31:13 are reserved and read 0. -/
def State.statusWord (s : State) : Word :=
  (0#19 ++ BitVec.ofBool s.linkReady ++ BitVec.ofBool s.released ++ s.failState.code ++ 0#1 ++ s.errKind.code ++
    BitVec.ofBool s.done ++ s.state.code : BitVec 32)

/-- The acknowledgment window is open: a session is under way (R39, R169) and the frame has been emitted whole, for a
frame still in emission has no open window (R218). -/
def State.windowOpen (s : State) : Bool := s.state.inSession && s.serPhase == .idle

end Sys2Proof.Machine
end

