-- ==== Sys2Proof/Machine/Checksum.lean ====
section
/-! DEFINITION. The ChecksumEngine (40_checksum.md) and the bit-serial checksum unit's cycle (43_datapath.md R203). -/

namespace Sys2Proof.Machine

/-- CRC_INIT (R111). -/
def crcInit : Byte := 0x00#8

/-- CRC_BIT (R113): the exclusive or where bit 0 is set, then the logical shift. -/
def crcBit (crc : Byte) : Byte :=
  (if crc.getLsbD 0 then crc ^^^ Config.polynomial else crc) >>> 1

/-- `k` applications of CRC_BIT. -/
def crcBits : Nat → Byte → Byte
  | 0, crc => crc
  | k + 1, crc => crcBits k (crcBit crc)

/-- CRC_BYTE (R112). -/
def crcByte (crc b : Byte) : Byte := crcBits 8 (crc ^^^ b)

/-- The crc register after CRC_BYTE of each byte in order (R114). -/
def crcRun (crc : Byte) (data : List Byte) : Byte := data.foldl crcByte crc

/-- CHECKSUM (R114). -/
def checksum (data : List Byte) : Byte := crcRun crcInit data

/-- `crc_busy` (R201). -/
def State.crcBusy (s : State) : Bool := s.crcCnt != 0#4

/-- One cycle of the checksum unit under its controls `crc_clr` and `crc_load` with `crc_in` (R203); a load while busy
is a fault (R204). -/
def crcCycle (clr : Bool) (load : Option Byte) (s : State) : Host.Outcome State Fault Refusal :=
  if clr then .next { s with crc := crcInit, crcCnt := 0#4 }
  else
    match load with
    | some b =>
      if s.crcBusy then .fault .crcLoadBusy
      else .next { s with crc := s.crc ^^^ b, crcCnt := 8#4 }
    | none =>
      if s.crcBusy then .next { s with crc := crcBit s.crc, crcCnt := s.crcCnt - 1#4 }
      else .next s

end Sys2Proof.Machine
end

