-- ==== Sys2Proof/Machine/FrameCodec.lean ====
section
/-! DEFINITION. The FrameCodec (41_frame_codec.md): BUILD_FRAME, PARSE_ACK and FRAME_CHECK, with the byte order of
multi-byte fields (R13, R69). -/

namespace Sys2Proof.Machine

/-- `LE16` (R13). -/
def le16 (v : BitVec 16) : List Byte := [v.extractLsb' 0 8, v.extractLsb' 8 8]

/-- `LE32` (R13). -/
def le32 (v : Word) : List Byte :=
  [v.extractLsb' 0 8, v.extractLsb' 8 8, v.extractLsb' 16 8, v.extractLsb' 24 8]

/-- The bytes the frame check sequence covers: command, length, payload (R83, R131). -/
def frameBody (cmd : Byte) (payload : List Byte) : List Byte :=
  cmd :: (le16 (BitVec.ofNat 16 payload.length) ++ payload)

/-- The bytes of a frame (R81, R131). -/
def frameBytes (cmd : Byte) (payload : List Byte) : List Byte :=
  Config.startMarker :: (frameBody cmd payload ++ [checksum (frameBody cmd payload), Config.endMarker])

/-- BUILD_FRAME (R131); no frame for more than 65535 payload bytes (R132). -/
def buildFrame (cmd : Byte) (payload : List Byte) : Option (List Byte) :=
  if payload.length ≤ Config.maxPayload then some (frameBytes cmd payload) else none

/-- The result of PARSE_ACK (R137). -/
inductive AckResponse where
  | timeoutError
  | status (b : Byte)
deriving DecidableEq, Repr

/-- PARSE_ACK (R137). -/
def parseAck : List Byte → AckResponse
  | [] => .timeoutError
  | b :: _ => .status b

/-- FRAME_CHECK's reasons (R140). -/
inductive FrameReject where
  | tooShort
  | badStart
  | badLength
  | badEnd
  | badChecksum
  | unknownCommand
  | badAllocLength
  | badBlockLength
deriving DecidableEq, Repr

/-- Byte `k` of a sequence (R13); 0 past its end, which FRAME_CHECK never reads. -/
def byteAt (f : List Byte) (k : Nat) : Byte := f.getD k 0#8

/-- The Length field of a frame's bytes 2 and 3 (R84). -/
def frameLen (f : List Byte) : Nat :=
  (BitVec.setWidth 16 (byteAt f 2) ||| (BitVec.setWidth 16 (byteAt f 3) <<< 8)).toNat

/-- FRAME_CHECK (R140), the checks in the rule's order. The block never runs it. -/
def frameCheck (f : List Byte) : Except FrameReject (Byte × List Byte) :=
  let n := frameLen f
  let cmd := byteAt f 1
  if f.length < Config.frameOverhead then .error .tooShort
  else if byteAt f 0 ≠ Config.startMarker then .error .badStart
  else if f.length ≠ Config.frameOverhead + n then .error .badLength
  else if byteAt f (5 + n) ≠ Config.endMarker then .error .badEnd
  else if checksum ((f.drop 1).take (3 + n)) ≠ byteAt f (4 + n) then .error .badChecksum
  else if cmd ≠ Config.cmdAllocateMemory ∧ cmd ≠ Config.cmdBinaryBlock ∧ cmd ≠ Config.cmdBinaryBlockLast then
    .error .unknownCommand
  else if cmd = Config.cmdAllocateMemory ∧ n ≠ Config.allocPayloadLen then .error .badAllocLength
  else if cmd ≠ Config.cmdAllocateMemory ∧ (n = 0 ∨ Config.blockSize < n) then .error .badBlockLength
  else .ok (cmd, (f.drop 4).take n)

end Sys2Proof.Machine
end

