-- ==== Sys2Proof/Machine/Operands.lean ====
section
/-! DEFINITION. What the operations read: IMAGE_MEM, block slices and segmentation (42_block_uploader.md R160 to R168),
frame payloads, and the register view (10_state.md R22). -/

namespace Sys2Proof.Machine

/-- The byte the host has loaded at an address, or none (R60; log 2). -/
def memByte? : Memory → Nat → Option Byte
  | [], _ => none
  | (k, b) :: m, a => if k = a then some b else memByte? m a

/-- The byte of IMAGE_MEM at an address: what the host loaded, or any value where it loaded nothing (R43, I9). -/
def imageByte (m : Memory) (a : Nat) : Byte := (memByte? m a).getD (Config.unloadedByte a)

/-- The `n` bytes of IMAGE_MEM from address `a` on, in address order (R61, R70). -/
def imageBytes (m : Memory) (a : Nat) : Nat → List Byte
  | 0 => []
  | n + 1 => imageByte m a :: imageBytes m (a + 1) n

/-- BLOCK_COUNT_OF (R160). -/
def blockCountOf (len : Nat) : Nat := (len + 511) / 512

/-- ALLOC_SIZE_OF (R161). -/
def allocSizeOf (len : Nat) : Nat := blockCountOf len * 512

/-- The number of bytes of block `i` of an image of `len` bytes (R166). -/
def blockLen (len i : Nat) : Nat := min Config.blockSize (len - i * Config.blockSize)

/-- BLOCK_CMD (R168). -/
def blockCmd (blockCount i : Nat) : Byte :=
  if i + 1 = blockCount then Config.cmdBinaryBlockLast else Config.cmdBinaryBlock

/-- BLOCK_SLICE (R166) of the image under upload: every address read lies below L (R61). -/
def blockSlice (s : State) (i : Nat) : List Byte :=
  imageBytes s.image (i * Config.blockSize) (blockLen s.imageLen.toNat i)

/-- Where a frame's payload comes from: ALLOC_SIZE (R133) or the slice of a block (R134, R135). -/
inductive Payload where
  | alloc
  | block (i : Nat)
deriving DecidableEq, Repr

/-- `ser_src` of a payload (R210). -/
def Payload.src : Payload → SerSrc
  | .alloc => .alloc
  | .block _ => .image

/-- `ser_base` of a payload (R210). -/
def Payload.base : Payload → Word
  | .alloc => 0#32
  | .block i => BitVec.ofNat 32 (i * Config.blockSize)

/-- The payload has its bytes: a block begins below L, or its slice would read beyond the image (R61, R166). -/
def Payload.readable (s : State) : Payload → Bool
  | .alloc => true
  | .block i => decide (i * Config.blockSize < s.imageLen.toNat)

/-- The number of payload bytes (R85, R86). -/
def Payload.size (s : State) : Payload → Nat
  | .alloc => Config.allocPayloadLen
  | .block i => blockLen s.imageLen.toNat i

/-- The payload bytes (R85, R86). -/
def Payload.bytes (s : State) : Payload → List Byte
  | .alloc => le32 s.allocSize
  | .block i => blockSlice s i

/-- The value of the register at an offset (R22 to R38): registers narrower than 32 bits read 0 above, CTRL and the
reserved offsets read 0. -/
def State.readReg (s : State) (off : BitVec 6) : Word :=
  match off.toNat with
  | 0x04 => s.statusWord
  | 0x08 => s.imageLen
  | 0x0C => s.blockCount.setWidth 32
  | 0x10 => s.allocSize
  | 0x14 => s.blockIndex.setWidth 32
  | 0x18 => s.errCode.setWidth 32
  | 0x1C => s.errBlock.setWidth 32
  | 0x20 => s.framesSent
  | 0x24 => s.lastFcs.setWidth 32
  | _ => 0#32

end Sys2Proof.Machine
end

