-- ==== Sys2Proof/Machine/Ops.lean ====
section
/-! DEFINITION. The shared operations: sequencing of steps, the host's load of IMAGE_MEM, the TX stream, EMIT_FRAME at
both levels (R164, R210), Release (R182), the error entry `raise` (R243) and reset (R270). There is no return from an
error but reset (R251). -/

namespace Sys2Proof.Machine

/-- The result of one operation of the block. -/
abbrev Result := Host.Outcome State Fault Refusal

/-- `r`, then `f` on its next state; a stop stays a stop. -/
def andThen (r : Result) (f : State → Result) : Result :=
  match r with
  | .next s => f s
  | .fault e => .fault e
  | .refused e => .refused e

/-- The level a step is taken at: whole transactions (R15), or clock cycles (R200). -/
inductive Level where
  | transaction
  | cycle
deriving DecidableEq, Repr

/-- Store one byte of IMAGE_MEM, keeping the addresses strictly rising. -/
def memStore : Memory → Nat → Byte → Memory
  | [], a, b => [(a, b)]
  | (k, v) :: m, a, b =>
    if a < k then (a, b) :: (k, v) :: m
    else if a = k then (a, b) :: m
    else (k, v) :: memStore m a b

/-- Store bytes at consecutive addresses (`MemWrite` of R14). -/
def memLoad : Memory → Nat → List Byte → Memory
  | m, _, [] => m
  | m, a, b :: bs => memLoad (memStore m a b) (a + 1) bs

/-- The addresses of a memory rise strictly from `low` on and are 32-bit addresses. -/
def memSorted : Nat → Memory → Bool
  | _, [] => true
  | low, (k, _) :: m => decide (low ≤ k) && decide (k < Config.imageSpace) && memSorted (k + 1) m

/-- The canonical form: strictly rising 32-bit addresses. An unlisted address has no loaded byte (`memByte?` gives
none), which no listed byte equals (log 2). -/
def Memory.wf (m : Memory) : Bool := memSorted 0 m

/-- A host load of IMAGE_MEM: refused in a session (R62, I13), a fault past the 32-bit addresses (R60). -/
def hostLoad (addr : Word) (bytes : List Byte) (s : State) : Result :=
  if s.state.inSession then .refused .imageWriteInSession
  else if Config.imageSpace < addr.toNat + bytes.length then .fault .imageAddressOutside
  else .next { s with image := memLoad s.image addr.toNat bytes }

/-- TxEmit (R66). -/
def txEmit (f : List Byte) (s : State) : State := { s with tx := s.tx ++ f }

/-- AwaitAck (R178): the window of the frame just emitted is open. -/
def awaitAck (s : State) : State := { s with ackWait := true }

/-- The registers after the frame `f` has been emitted: the counters of R164, and the checksum unit and serializer as
the emission leaves them (R37, R209 to R214). -/
def frameSent (cmd : Byte) (p : Payload) (f : List Byte) (s : State) : State :=
  let n := BitVec.ofNat 16 (p.size s)
  let fcs := byteAt f (f.length - 2)
  { s with
    framesSent := s.framesSent + 1#32, lastFcs := fcs, crc := fcs, crcCnt := 0#4
    serCmd := cmd, serLen := n, serPos := n, serBase := p.base, serSrc := p.src, serHeld := none }

/-- The serializer loaded for a frame, with `crc_clr` (R210, R203). -/
def serLoaded (cmd : Byte) (p : Payload) (s : State) : State :=
  { s with
    serPhase := .sof, serCmd := cmd, serLen := BitVec.ofNat 16 (p.size s), serPos := 0#16
    serBase := p.base, serSrc := p.src, serHeld := none, crc := crcInit, crcCnt := 0#4 }

/-- EMIT_FRAME (R164): at the transaction level the whole frame in this step; at the byte level the serializer is
loaded (R210). Only when no frame is in emission (R210, R219). It tests `ser_phase` only, not `ack_wait`: by R219 the two
agree in every run, and where a stand-alone FRAME operation makes them differ that is the model's choice (DESIGN CHOICE,
log 7). -/
def emitFrame (lv : Level) (cmd : Byte) (p : Payload) (s : State) : Result :=
  if s.serPhase ≠ .idle then .fault .serializerBusy
  else if p.readable s = false then .fault .readBeyondImage
  else
    match lv with
    | .cycle => .next (serLoaded cmd p s)
    | .transaction =>
      match buildFrame cmd (p.bytes s) with
      | none => .refused .payloadTooLong
      | some f => .next (awaitAck (frameSent cmd p f (txEmit f s)))

/-- The allocation frame (R133). -/
def emitAllocate (lv : Level) (s : State) : Result := emitFrame lv Config.cmdAllocateMemory .alloc s

/-- The frame of block `i`, its command from the control point (R90, R134, R135, R168). -/
def emitBlock (lv : Level) (i : Nat) (s : State) : Result :=
  emitFrame lv (blockCmd s.blockCount.toNat i) (.block i) s

/-- Release (R182). -/
def release (s : State) : State := { s with released := true }

/-- The entry of Complete (R175, R177). -/
def complete (s : State) : State := release { s with state := .complete }

/-- The four errors with their information (R240). -/
inductive UploadError where
  | transportOpen
  | ackTimeout (block : BlockNum)
  | allocation (code : Byte)
  | transfer (block : BlockNum) (code : Byte)
deriving DecidableEq, Repr

/-- ERR_KIND of an error (R240). -/
def UploadError.kind : UploadError → ErrKind
  | .transportOpen => .transportOpen
  | .ackTimeout _ => .ackTimeout
  | .allocation _ => .allocation
  | .transfer _ _ => .transfer

/-- ERR_CODE of an error (R243, R244). -/
def UploadError.code : UploadError → Byte
  | .transportOpen => 0#8
  | .ackTimeout _ => 0#8
  | .allocation c => c
  | .transfer _ c => c

/-- ERR_BLOCK of an error (R243). -/
def UploadError.block : UploadError → BlockNum
  | .transportOpen => 0#24
  | .ackTimeout i => i
  | .allocation _ => 0#24
  | .transfer i _ => i

/-- `raise E(info)`, the error entry (R243): every other register keeps its value. -/
def raise (e : UploadError) (s : State) : State :=
  release
    { s with failState := s.state, errKind := e.kind, errCode := e.code, errBlock := e.block, state := .failed }

/-- RESET (R270, R220): every register to its reset value; the inputs, the memory and the moves to come are not the
block's, and what the TX stream held is history. -/
def resetFrom (s : State) : State :=
  { State.reset with
    linkReady := s.linkReady, image := s.image, inputs := s.inputs, txPast := s.txPast ++ s.tx }

end Sys2Proof.Machine
end

