-- ==== Sys2Proof/Machine/Uploader.lean ====
section
/-! DEFINITION. The transitions of the BlockUploader (42_block_uploader.md R170 to R184), each written once for both
levels: they differ only in how EMIT_FRAME sends a frame. -/

namespace Sys2Proof.Machine

/-- What START latches (R170). -/
def latch (s : State) : State :=
  { s with
    blockCount := BitVec.ofNat 24 (blockCountOf s.imageLen.toNat)
    allocSize := BitVec.ofNat 32 (allocSizeOf s.imageLen.toNat)
    blockIndex := 0#24, framesSent := 0#32 }

/-- The state moves to `u` (R14). -/
def moveTo (u : UploadState) (s : State) : State := { s with state := u }

/-- START (R170 to R173), its checks in the order of R187 and R249(c). In Idle with `ack_wait` set, which only a
stand-alone FRAME_ALLOCATE_MEMORY makes, it starts the session all the same (DESIGN CHOICE, log 7). -/
def startSession (lv : Level) (s : State) : Result :=
  match s.state with
  | .idle =>
    if Config.maxImageLen < s.imageLen.toNat then .refused .imageTooLong
    else if s.linkReady = false then .next (raise .transportOpen s)
    else andThen (emitAllocate lv (latch s)) fun t => .next (moveTo .allocateSent t)
  | .allocateSent => .next s
  | .uploading => .next s
  | .complete => .next s
  | .failed => .next s

/-- BLOCK_INDEX moves to `i` (R174, R176). -/
def atBlock (i : BlockNum) (s : State) : State := { s with blockIndex := i }

/-- A success acknowledgment answers the window (R174 to R177). -/
def onSuccess (lv : Level) (s : State) : Result :=
  match s.state with
  | .allocateSent =>
    if s.blockCount = 0#24 then .next (complete s)
    else andThen (emitBlock lv 0 (atBlock 0#24 s)) fun t => .next (moveTo .uploading t)
  | .uploading =>
    let i := s.blockIndex.toNat
    if i + 1 < s.blockCount.toNat then emitBlock lv (i + 1) (atBlock (s.blockIndex + 1#24) s)
    else if i + 1 = s.blockCount.toNat then .next (complete s)
    else .fault .blockIndexOutside
  | .idle => .next s
  | .complete => .next s
  | .failed => .next s

/-- An error acknowledgment with code `c` answers the window (R181). -/
def onErrorCode (c : Byte) (s : State) : Result :=
  match s.state with
  | .allocateSent => .next (raise (.allocation c) s)
  | .uploading => .next (raise (.transfer s.blockIndex c) s)
  | .idle => .next s
  | .complete => .next s
  | .failed => .next s

/-- A timeout answers the window (R180). -/
def onTimeout (s : State) : Result :=
  match s.state with
  | .allocateSent => .next (raise (.ackTimeout 0#24) s)
  | .uploading => .next (raise (.ackTimeout s.blockIndex) s)
  | .idle => .next s
  | .complete => .next s
  | .failed => .next s

/-- The window is answered: it is open no more (R178). -/
def closeWindow (s : State) : State := { s with ackWait := false }

/-- The event of an open window is taken: it closes the window and alone decides (R178, R179). -/
def takeEvent (lv : Level) (r : AckResponse) (s : State) : Result :=
  match r with
  | .timeoutError => onTimeout (closeWindow s)
  | .status b =>
    if b = Config.ackSuccess then onSuccess lv (closeWindow s) else onErrorCode b (closeWindow s)

/-- A link event at the transaction level: discarded where no window is open (R184, R218). -/
def linkEvent (r : AckResponse) (s : State) : Result :=
  if s.windowOpen then takeEvent .transaction r s else .next s

end Sys2Proof.Machine
end

