-- ==== Sys2Proof/Machine/HostOps.lean ====
section
/-! DEFINITION. The host's register operations (30_encoding.md R96; R23, R24, R170 to R173, R185, R186) and RESET
(R270). -/

namespace Sys2Proof.Machine

/-- HOST_START (R170 to R173); DATA bits 31:1 are ignored (R97). -/
def execHostStart (_ignored : BitVec 31) (s : State) : Result := startSession .transaction s

/-- HOST_CTRL_NOP (R23): a CTRL write with START = 0 has no effect. -/
def execHostCtrlNop (_ignored : BitVec 31) (s : State) : Result := .next s

/-- HOST_WRITE_IMAGE_LEN (R31, R185): stored in Idle, ignored in every other state. -/
def execHostWriteImageLen (len : Word) (s : State) : Result :=
  match s.state with
  | .idle => .next { s with imageLen := len }
  | .allocateSent => .next s
  | .uploading => .next s
  | .complete => .next s
  | .failed => .next s

/-- HOST_WRITE_IGNORED (R24, R32 to R36, R38). -/
def execHostWriteIgnored (_off : BitVec 6) (_data : Word) (s : State) : Result := .next s

/-- HOST_READ (R186): the value goes to the read port and nothing else changes (R65); an offset that is no multiple of
4 is refused (R64). -/
def execHostRead (off : BitVec 6) (s : State) : Result :=
  if offsetAligned off then .next { s with regRdata := some (s.readReg off) } else .refused .badRegisterAccess

/-- RESET (R270). -/
def execReset (s : State) : Result := .next (resetFrom s)

end Sys2Proof.Machine
end

