-- ==== Sys2Proof/Machine/Datapath.lean ====
section
/-! DEFINITION. One clock cycle of the byte-level block (43_datapath.md R200 to R220): output ports, serializer, image
port, link sampling and the host's register access. Every decision reads the registers as they stand before the edge
(log 9). -/

namespace Sys2Proof.Machine

/-- `released` output (R202). -/
def State.releasedPort (s : State) : Bool := s.released

/-- `img_req`: a payload byte is wanted and none is held (R207, R213; log 5). -/
def State.imgReq (s : State) : Bool :=
  s.serPhase == .payload && s.serSrc == .image && s.serHeld.isNone

/-- `img_addr` (R207, R213). While `img_req` is 0 the spec gives it no value, and the model drives the same sum (DESIGN
CHOICE, log 17). -/
def State.imgAddr (s : State) : Word := s.serBase + s.serPos.setWidth 32

/-- Byte `ser_pos` of LE32(ALLOC_SIZE) (R213). -/
def State.allocByte (s : State) : Byte := (s.allocSize >>> (8 * s.serPos.toNat)).setWidth 8

/-- The payload byte at hand in SER_PAYLOAD: ALLOC_SIZE's at once, the image's once it is held (R213). -/
def State.payloadByte? (s : State) : Option Byte :=
  match s.serSrc with
  | .alloc => some s.allocByte
  | .image => s.serHeld

/-- The byte presented to the link, or none while `tx_valid` is 0 (R209, R211 to R214). -/
def State.txByte? (s : State) : Option Byte :=
  match s.serPhase with
  | .idle => none
  | .sof => some Config.startMarker
  | .cmd => if s.crcBusy then none else some s.serCmd
  | .lenLo => if s.crcBusy then none else some (s.serLen.extractLsb' 0 8)
  | .lenHi => if s.crcBusy then none else some (s.serLen.extractLsb' 8 8)
  | .payload => if s.crcBusy then none else s.payloadByte?
  | .fcs => if s.crcBusy then none else some s.crc
  | .eof => some Config.endMarker

/-- `tx_valid` (R206). -/
def State.txValid (s : State) : Bool := s.txByte?.isSome

/-- `tx_data`; while `tx_valid` is 0 the spec gives it no value, and the model drives 0 (DESIGN CHOICE, log 17). -/
def State.txData (s : State) : Byte := s.txByte?.getD 0#8

/-- The edge at which the presented byte `b` transfers (R206): the phase moves on, and the checksum unit loads the
bytes it covers (R211 to R214). -/
def serTransfer (b : Byte) (s : State) : Result :=
  let sent := txEmit [b] s
  match s.serPhase with
  | .idle => .next s
  | .sof => crcCycle false none { sent with serPhase := .cmd }
  | .cmd => crcCycle false (some b) { sent with serPhase := .lenLo }
  | .lenLo => crcCycle false (some b) { sent with serPhase := .lenHi }
  | .lenHi => crcCycle false (some b) { sent with serPhase := if s.serLen = 0#16 then .fcs else .payload }
  | .payload =>
    let pos := s.serPos + 1#16
    crcCycle false (some b)
      { sent with serPos := pos, serHeld := none, serPhase := if pos = s.serLen then .fcs else .payload }
  | .fcs => crcCycle false none { sent with lastFcs := s.crc, serPhase := .eof }
  | .eof =>
    crcCycle false none { sent with serPhase := .idle, ackWait := true, framesSent := s.framesSent + 1#32 }

/-- The image port answers (R207): the byte at `img_addr` is held; an address not below L is a fault (R61, I22). -/
def imageAnswer (s : State) : Result :=
  if s.imgAddr.toNat < s.imageLen.toNat then
    .next { s with serHeld := some (imageByte s.image s.imgAddr.toNat) }
  else .fault .readBeyondImage

/-- An edge of the serializer with no transfer: the checksum unit steps, and the image port may answer. -/
def serWait (imgAck : Bool) (s : State) : Result :=
  andThen (if s.imgReq && imgAck then imageAnswer s else .next s) (crcCycle false none)

/-- One cycle of the serializer and the checksum unit (R203, R206 to R214). -/
def serCycle (txReady imgAck : Bool) (s : State) : Result :=
  match s.txByte? with
  | some b => if txReady then serTransfer b s else serWait imgAck s
  | none => serWait imgAck s

/-- The host's register access of this cycle, as the HOSTOP it stands for (R96, R202); START loads the serializer
(R218). -/
def hostOpCycle (i : Instr) (s : State) : Result :=
  match i with
  | .hostStart _ => startSession .cycle s
  | .hostCtrlNop ignored => execHostCtrlNop ignored s
  | .hostWriteImageLen len => execHostWriteImageLen len s
  | .hostWriteIgnored off data => execHostWriteIgnored off data s
  | .hostRead off => execHostRead off s
  | .frameAllocateMemory => .next s
  | .frameBinaryBlock => .next s
  | .frameBinaryBlockLast _ => .next s
  | .ackSuccess => .next s
  | .ackError _ => .next s
  | .ackTimeout => .next s
  | .reset => .next s

/-- The register port of this cycle (R202): a misaligned offset is refused (R64, R93). -/
def hostCycle (p : PortsIn) (s : State) : Result :=
  if p.regReq then
    match decode (.hostop (hostopOfAccess p.regWe p.regOff p.regWdata)) with
    | .ok i => hostOpCycle i s
    | .error _ => .refused .badRegisterAccess
  else .next s

/-- What the link delivers in this cycle, if anything: a byte beats a timeout (R208, R216, R249(b)). -/
def PortsIn.linkEvent? (p : PortsIn) : Option AckResponse :=
  if p.rxValid then some (parseAck [p.rxData])
  else if p.rxTimeout then some (parseAck [])
  else none

/-- The link sampling of this cycle (R216): with `ack_wait` 0 a byte or a timeout is discarded (R217). -/
def linkCycle (p : PortsIn) (s : State) : Result :=
  match p.linkEvent? with
  | none => .next s
  | some r => if s.ackWait then takeEvent .cycle r s else .next s

/-- One clock cycle (R200). Reset beats everything (R249(a)). The register access and the link event act on the
registers before the edge; the serializer and the checksum unit advance unless the serializer was loaded in this cycle,
whose `crc_clr` is then the unit's action (R203, R210). -/
def cycle (p : PortsIn) (s : State) : Result :=
  let s₀ := { s with linkReady := p.linkReady }
  if p.rst then .next (resetFrom s₀)
  else
    andThen (hostCycle p s₀) fun s₁ =>
    andThen (linkCycle p s₁) fun s₂ =>
    if s.serPhase == .idle && s₂.serPhase != .idle then .next s₂ else serCycle p.txReady p.imgAck s₂

end Sys2Proof.Machine
end

