-- ==== Sys2Proof/Machine/Frames.lean ====
section
/-! DEFINITION. The three frames as operations (41_frame_codec.md R133 to R135): EMIT_FRAME of the frame the control
point selects (R89, R90). Away from its control point the block emits no such frame, and nothing happens (log 7). -/

namespace Sys2Proof.Machine

/-- No frame is in flight: none in emission and none unacknowledged (R77, R279). -/
def State.noFrameInFlight (s : State) : Bool := !s.ackWait && s.serPhase == .idle

/-- The control point of the allocation frame: the first frame of a session, sent by START from Idle (R89, R133). -/
def State.allocationDue (s : State) : Bool := s.noFrameInFlight && s.state == .idle

/-- The control point of a block frame that is not the last: BLOCK_INDEX < BLOCK_COUNT - 1 in a session (R134). -/
def State.blockDue (s : State) : Bool :=
  s.noFrameInFlight && s.state.inSession && decide (s.blockIndex.toNat + 1 < s.blockCount.toNat)

/-- The control point of the last block's frame: BLOCK_INDEX = BLOCK_COUNT - 1 in a session (R135). -/
def State.lastBlockDue (s : State) : Bool :=
  s.noFrameInFlight && s.state.inSession && decide (s.blockIndex.toNat + 1 = s.blockCount.toNat)

/-- FRAME_ALLOCATE_MEMORY (R133). -/
def execFrameAllocateMemory (s : State) : Result :=
  if s.allocationDue then emitAllocate .transaction s else .next s

/-- FRAME_BINARY_BLOCK (R134). -/
def execFrameBinaryBlock (s : State) : Result :=
  if s.blockDue then emitBlock .transaction s.blockIndex.toNat s else .next s

/-- FRAME_BINARY_BLOCK_LAST (R135): the frame's Length is the last slice's length (R84, R86). -/
def execFrameBinaryBlockLast (len : BitVec 16) (s : State) : Result :=
  if s.lastBlockDue && len.toNat == blockLen s.imageLen.toNat s.blockIndex.toNat then
    emitBlock .transaction s.blockIndex.toNat s
  else .next s

end Sys2Proof.Machine
end

