-- ==== Sys2Proof/Machine/Link.lean ====
section
/-! DEFINITION. The acknowledgment events as operations (41_frame_codec.md R138, R139; 42_block_uploader.md R174 to
R184): each is a link read through PARSE_ACK (R137). -/

namespace Sys2Proof.Machine

/-- ACK_SUCCESS (R138). -/
def execAckSuccess (s : State) : Result := linkEvent (parseAck [Config.ackSuccess]) s

/-- ACK_ERROR (R139). -/
def execAckError (code : Byte) (s : State) : Result := linkEvent (parseAck [code]) s

/-- ACK_TIMEOUT (R180). -/
def execAckTimeout (s : State) : Result := linkEvent (parseAck []) s

end Sys2Proof.Machine
end

