-- ==== Sys2Proof/Machine/Dispatch.lean ====
section
/-! DEFINITION. One arm per operation of spec/opcode_table.json, each one call of its meaning. -/

namespace Sys2Proof.Machine

/-- What an operation does, at the transaction level (R15). -/
def exec (i : Instr) (s : State) : Host.Outcome State Fault Refusal :=
  match i with
  | .frameAllocateMemory => Sys2Proof.Machine.execFrameAllocateMemory s
  | .frameBinaryBlock => Sys2Proof.Machine.execFrameBinaryBlock s
  | .frameBinaryBlockLast len => Sys2Proof.Machine.execFrameBinaryBlockLast len s
  | .ackSuccess => Sys2Proof.Machine.execAckSuccess s
  | .ackError code => Sys2Proof.Machine.execAckError code s
  | .ackTimeout => Sys2Proof.Machine.execAckTimeout s
  | .hostStart ignored => Sys2Proof.Machine.execHostStart ignored s
  | .hostCtrlNop ignored => Sys2Proof.Machine.execHostCtrlNop ignored s
  | .hostWriteImageLen len => Sys2Proof.Machine.execHostWriteImageLen len s
  | .hostWriteIgnored off data => Sys2Proof.Machine.execHostWriteIgnored off data s
  | .hostRead off => Sys2Proof.Machine.execHostRead off s
  | .reset => Sys2Proof.Machine.execReset s

end Sys2Proof.Machine
end

