-- ==== Sys2Proof/Machine/Events.lean ====
section
/-! DEFINITION. One move of the host or the link (R15, R20, R255), and how the next one is fetched. -/

namespace Sys2Proof.Machine

/-- An encoded operation arrives (R80): what it decodes to is executed, and a word that is no operation is refused
(R88, R91, R93). -/
def runWord (w : OpWord) (s : State) : Result :=
  match decode w with
  | .ok i => exec i s
  | .error e => .refused (.illegalWord e)

/-- A host register access of any width and offset: refused unless it has a HOSTOP word (R64). -/
def runAccess (write : Bool) (width offset : Nat) (data : Word) (s : State) : Result :=
  match accessWord write width offset data with
  | some w => runWord (.hostop w) s
  | none => .refused .badRegisterAccess

/-- One move is taken. -/
def runInput (i : Input) (s : State) : Result :=
  match i with
  | .op w => runWord w s
  | .rx raw => runWord (.rxev (rxevOfRead raw)) s
  | .access write width offset data => runAccess write width offset data s
  | .linkReady level => .next { s with linkReady := level }
  | .loadImage addr bytes => hostLoad addr bytes s
  | .clock ports => cycle ports s

/-- The next move is taken off the pending ones, and the read port is valid no more (R202). -/
def takeInput (rest : List Input) (s : State) : State := { s with inputs := rest, regRdata := none }

/-- The next move with the rest pending; with none pending the block takes no step and all its state survives (R178,
R258, I19). -/
def runNext (s : State) : Result :=
  match s.inputs with
  | [] => .next s
  | i :: rest => runInput i (takeInput rest s)

/-- `w` is placed as the next move. -/
def placeWord (w : OpWord) (s : State) : State := { s with inputs := .op w :: s.inputs }

end Sys2Proof.Machine
end

