-- ==== Sys2Proof/Machine/Step.lean ====
section
/-! DEFINITION. One step of the block (00_scope.md R15), and where a step takes its operation from. -/

namespace Sys2Proof.Machine

/-- `s` with the operation of a table row of `nbits` bits and value `w` placed as the next move (log 1). -/
def State.withFetchWord (s : State) (nbits w : Nat) : State := placeWord (tableWord nbits w) s

/-- One step: the next move of the host or the link is taken (R15). -/
def step (s : State) : Host.Outcome State Fault Refusal := runNext s

end Sys2Proof.Machine
end

