-- ==== Sys2Proof/Safety.lean ====
section
/-! DEFINITION. The terms claims are stated in: what holds of every state the rules produce (the invariant), what the
TX stream of a session is (R77, R90, R95), and runs of several operations or clock cycles. -/

namespace Sys2Proof.Safety

open Sys2Proof.Machine

/-- The point the session has reached: the state, or the state it failed in (R28). -/
def point (s : State) : UploadState := if s.state = .failed then s.failState else s.state

/-- What START latches is in place (R32, R33, R163). -/
abbrev Latched (s : State) : Prop :=
  s.imageLen.toNat ≤ Config.maxImageLen ∧ s.blockCount.toNat = blockCountOf s.imageLen.toNat ∧
  s.allocSize.toNat = allocSizeOf s.imageLen.toNat

/-- No session has started since reset: nothing latched, nothing emitted (R42, R43, R172). -/
abbrev Unstarted (s : State) : Prop :=
  s.blockCount = 0#24 ∧ s.allocSize = 0#32 ∧ s.blockIndex = 0#24 ∧ s.framesSent = 0#32 ∧ s.lastFcs = 0#8 ∧
  s.tx = []

/-- A session has started, is under way, or has ended after its allocation frame. -/
abbrev Started (s : State) : Prop :=
  point s = .allocateSent ∨ point s = .uploading ∨ point s = .complete

/-- The error fields and RELEASED fit the state (R27 to R29, R35, R240, R243). -/
abbrev ErrorsFit (s : State) : Prop :=
  (s.errKind = .none ↔ s.state ≠ .failed) ∧
  (s.errKind = .none → s.failState = .idle ∧ s.errCode = 0#8 ∧ s.errBlock = 0#24) ∧
  (s.errKind = .transportOpen → s.failState = .idle ∧ s.errCode = 0#8 ∧ s.errBlock = 0#24) ∧
  (s.errKind = .ackTimeout → s.errCode = 0#8 ∧
    (s.failState = .allocateSent ∧ s.errBlock = 0#24 ∨ s.failState = .uploading ∧ s.errBlock = s.blockIndex)) ∧
  (s.errKind = .allocation → s.failState = .allocateSent ∧ s.errCode ≠ 0#8 ∧ s.errBlock = 0#24) ∧
  (s.errKind = .transfer → s.failState = .uploading ∧ s.errCode ≠ 0#8 ∧ s.errBlock = s.blockIndex) ∧
  s.released = s.state.terminal

/-- BLOCK_INDEX fits the point of the session (R34, R41, R177). -/
abbrev IndexFits (s : State) : Prop :=
  (point s = .allocateSent → s.blockIndex = 0#24) ∧
  (point s = .uploading → s.blockIndex.toNat < s.blockCount.toNat) ∧
  (point s = .complete →
    s.blockCount = 0#24 ∧ s.blockIndex = 0#24 ∨ s.blockIndex.toNat + 1 = s.blockCount.toNat)

/-- The frames a session has begun to emit at its point (R188). -/
def framesBegun (s : State) : Nat :=
  match point s with
  | .idle => 0
  | .allocateSent => 1
  | .uploading => s.blockIndex.toNat + 2
  | .complete => s.blockCount.toNat + 1
  | .failed => 0

/-- FRAMES_SENT counts the frames begun, the one in emission not yet (R36, R211, R221). -/
abbrev FramesCounted (s : State) : Prop :=
  s.framesSent.toNat + (if s.serPhase = .idle then 0 else 1) = framesBegun s

/-- The payload of the frame the session is at: the allocation's, or block BLOCK_INDEX's. -/
def payloadNow (s : State) : Payload :=
  if s.state = .allocateSent then .alloc else .block s.blockIndex.toNat

/-- The command of the frame the session is at (R90). -/
def cmdNow (s : State) : Byte :=
  if s.state = .allocateSent then Config.cmdAllocateMemory else blockCmd s.blockCount.toNat s.blockIndex.toNat

/-- The serializer, the window and the checksum unit fit the session (R209 to R219, R117). -/
abbrev SerializerFits (s : State) : Prop :=
  s.ackWait = s.windowOpen ∧
  (s.serPhase ≠ .idle → s.state.inSession = true ∧ s.serCmd = cmdNow s ∧
    s.serLen.toNat = (payloadNow s).size s ∧ s.serSrc = (payloadNow s).src ∧ s.serBase = (payloadNow s).base) ∧
  (s.serPhase = .sof ∨ s.serPhase = .cmd ∨ s.serPhase = .lenLo ∨ s.serPhase = .lenHi → s.serPos = 0#16) ∧
  (s.serPhase = .payload → s.serPos.toNat < s.serLen.toNat) ∧
  (s.serPhase = .fcs ∨ s.serPhase = .eof → s.serPos = s.serLen) ∧
  (s.serHeld.isSome = true → s.serPhase = .payload ∧ s.serSrc = .image) ∧
  s.crcCnt.toNat ≤ 8 ∧
  (s.serPhase = .idle ∨ s.serPhase = .sof ∨ s.serPhase = .eof → s.crcCnt = 0#4) ∧
  (s.crcCnt = 0#4 → s.crc.getLsbD 7 = false) ∧
  s.lastFcs.getLsbD 7 = false

/-- A move the host or the link can make (R255): a FRAME is what the block emits, nobody delivers one (R91). -/
def Input.delivered : Input → Bool
  | .op (.frame _) => false
  | .op (.rxev _) => true
  | .op (.hostop _) => true
  | .op (.pin _) => true
  | .rx _ => true
  | .access _ _ _ _ => true
  | .linkReady _ => true
  | .loadImage _ _ => true
  | .clock _ => true

/-- The invariant of the block: it holds after reset and every step keeps it. -/
structure Inv (s : State) : Prop where
  memory : s.image.wf = true
  errors : ErrorsFit s
  latched : Started s → Latched s
  unstarted : ¬ Started s → Unstarted s
  index : IndexFits s
  frames : FramesCounted s
  serializer : SerializerFits s
  moves : ∀ i ∈ s.inputs, Input.delivered i = true

/-- How a session has ended, and with how many frames sent (R188, R241, R242). -/
abbrev SessionOutcome (s : State) : Prop :=
  (s.state = .complete ∧ s.errKind = .none ∧ s.framesSent.toNat = s.blockCount.toNat + 1) ∨
  (s.state = .failed ∧ s.errKind = .transportOpen ∧ s.framesSent.toNat = 0) ∨
  (s.state = .failed ∧ (s.errKind = .allocation ∨ s.errKind = .ackTimeout) ∧ s.failState = .allocateSent ∧
    s.framesSent.toNat = 1) ∨
  (s.state = .failed ∧ (s.errKind = .transfer ∨ s.errKind = .ackTimeout) ∧ s.failState = .uploading ∧
    s.framesSent.toNat = s.errBlock.toNat + 2)

/-- Frame `k` of the session on the image as it stands (R90): the allocation frame, then the blocks' frames. -/
def sessionFrame (s : State) : Nat → List Byte
  | 0 => frameBytes Config.cmdAllocateMemory (le32 s.allocSize)
  | i + 1 => frameBytes (blockCmd s.blockCount.toNat i) (blockSlice s i)

/-- The first `n` frames of the session, one after the other (R77, R95). -/
def sessionBytes (s : State) : Nat → List Byte
  | 0 => []
  | n + 1 => sessionBytes s n ++ sessionFrame s n

/-- The bytes of the frame in emission that have transferred (R211 to R214). -/
def bytesTransferred (s : State) : Nat :=
  match s.serPhase with
  | .idle => 0
  | .sof => 0
  | .cmd => 1
  | .lenLo => 2
  | .lenHi => 3
  | .payload => 4 + s.serPos.toNat
  | .fcs => 4 + s.serLen.toNat
  | .eof => 5 + s.serLen.toNat

/-- The bytes of the frame in emission that the checksum unit has loaded (R212, R213). -/
def bytesLoaded (s : State) : Nat :=
  match s.serPhase with
  | .idle => 0
  | .sof => 0
  | .cmd => 0
  | .lenLo => 1
  | .lenHi => 2
  | .payload => 3 + s.serPos.toNat
  | .fcs => 3 + s.serLen.toNat
  | .eof => 3 + s.serLen.toNat

/-- The invariant of the TX stream in a session (R77, R78, R95, R215): the frames sent, whole and in order, then the
transferred bytes of the one in emission; the checksum unit is on its way to the checksum of the bytes it has loaded. -/
structure StreamInv (s : State) : Prop where
  stream : s.state.inSession = true →
    s.tx = sessionBytes s s.framesSent.toNat ++
      (sessionFrame s s.framesSent.toNat).take (bytesTransferred s)
  check : s.serPhase ≠ .idle →
    crcBits s.crcCnt.toNat s.crc = checksum ((frameBody (cmdNow s) ((payloadNow s).bytes s)).take (bytesLoaded s))
  held : ∀ b, s.serHeld = some b → b = imageByte s.image s.imgAddr.toNat

/-- `s` runs the operations in order, as the transaction level takes them, to the first stop. -/
def execAll : List Instr → State → Result
  | [], s => .next s
  | i :: is, s => andThen (exec i s) (execAll is)

/-- `s` runs one clock cycle for each set of input ports, to the first stop. -/
def cycles : List PortsIn → State → Result
  | [], s => .next s
  | p :: ps, s => andThen (cycle p s) (cycles ps)

/-- A cycle in which the host and the link let the block work: no reset, no register access, no link event, the level
`link_ready` as given, and both handshakes answered at once. -/
def readyPorts (linkReady : Bool) : PortsIn where
  rst := false
  regReq := false
  regWe := false
  regOff := 0#6
  regWdata := 0#32
  linkReady := linkReady
  imgAck := true
  txReady := true
  rxValid := false
  rxData := 0#8
  rxTimeout := false

/-- The whole TX output since the start: the history before the last reset, then the stream since (R39, R270). With the
registers it is the observation of a run (R189). That the link answers every window (R190) is assumed nowhere: a claim
that a session ends takes the answers as given. -/
def wire (s : State) : List Byte := s.txPast ++ s.tx

/-- The table T of R122, as 95_test_vectors.md prints it: row = high nibble, column = low nibble. -/
def crcTableRows : List (List Byte) :=
  [[0x00#8, 0x5F#8, 0x0D#8, 0x52#8, 0x1A#8, 0x45#8, 0x17#8, 0x48#8, 0x34#8, 0x6B#8, 0x39#8, 0x66#8, 0x2E#8, 0x71#8, 0x23#8, 0x7C#8],
   [0x68#8, 0x37#8, 0x65#8, 0x3A#8, 0x72#8, 0x2D#8, 0x7F#8, 0x20#8, 0x5C#8, 0x03#8, 0x51#8, 0x0E#8, 0x46#8, 0x19#8, 0x4B#8, 0x14#8],
   [0x63#8, 0x3C#8, 0x6E#8, 0x31#8, 0x79#8, 0x26#8, 0x74#8, 0x2B#8, 0x57#8, 0x08#8, 0x5A#8, 0x05#8, 0x4D#8, 0x12#8, 0x40#8, 0x1F#8],
   [0x0B#8, 0x54#8, 0x06#8, 0x59#8, 0x11#8, 0x4E#8, 0x1C#8, 0x43#8, 0x3F#8, 0x60#8, 0x32#8, 0x6D#8, 0x25#8, 0x7A#8, 0x28#8, 0x77#8],
   [0x75#8, 0x2A#8, 0x78#8, 0x27#8, 0x6F#8, 0x30#8, 0x62#8, 0x3D#8, 0x41#8, 0x1E#8, 0x4C#8, 0x13#8, 0x5B#8, 0x04#8, 0x56#8, 0x09#8],
   [0x1D#8, 0x42#8, 0x10#8, 0x4F#8, 0x07#8, 0x58#8, 0x0A#8, 0x55#8, 0x29#8, 0x76#8, 0x24#8, 0x7B#8, 0x33#8, 0x6C#8, 0x3E#8, 0x61#8],
   [0x16#8, 0x49#8, 0x1B#8, 0x44#8, 0x0C#8, 0x53#8, 0x01#8, 0x5E#8, 0x22#8, 0x7D#8, 0x2F#8, 0x70#8, 0x38#8, 0x67#8, 0x35#8, 0x6A#8],
   [0x7E#8, 0x21#8, 0x73#8, 0x2C#8, 0x64#8, 0x3B#8, 0x69#8, 0x36#8, 0x4A#8, 0x15#8, 0x47#8, 0x18#8, 0x50#8, 0x0F#8, 0x5D#8, 0x02#8],
   [0x59#8, 0x06#8, 0x54#8, 0x0B#8, 0x43#8, 0x1C#8, 0x4E#8, 0x11#8, 0x6D#8, 0x32#8, 0x60#8, 0x3F#8, 0x77#8, 0x28#8, 0x7A#8, 0x25#8],
   [0x31#8, 0x6E#8, 0x3C#8, 0x63#8, 0x2B#8, 0x74#8, 0x26#8, 0x79#8, 0x05#8, 0x5A#8, 0x08#8, 0x57#8, 0x1F#8, 0x40#8, 0x12#8, 0x4D#8],
   [0x3A#8, 0x65#8, 0x37#8, 0x68#8, 0x20#8, 0x7F#8, 0x2D#8, 0x72#8, 0x0E#8, 0x51#8, 0x03#8, 0x5C#8, 0x14#8, 0x4B#8, 0x19#8, 0x46#8],
   [0x52#8, 0x0D#8, 0x5F#8, 0x00#8, 0x48#8, 0x17#8, 0x45#8, 0x1A#8, 0x66#8, 0x39#8, 0x6B#8, 0x34#8, 0x7C#8, 0x23#8, 0x71#8, 0x2E#8],
   [0x2C#8, 0x73#8, 0x21#8, 0x7E#8, 0x36#8, 0x69#8, 0x3B#8, 0x64#8, 0x18#8, 0x47#8, 0x15#8, 0x4A#8, 0x02#8, 0x5D#8, 0x0F#8, 0x50#8],
   [0x44#8, 0x1B#8, 0x49#8, 0x16#8, 0x5E#8, 0x01#8, 0x53#8, 0x0C#8, 0x70#8, 0x2F#8, 0x7D#8, 0x22#8, 0x6A#8, 0x35#8, 0x67#8, 0x38#8],
   [0x4F#8, 0x10#8, 0x42#8, 0x1D#8, 0x55#8, 0x0A#8, 0x58#8, 0x07#8, 0x7B#8, 0x24#8, 0x76#8, 0x29#8, 0x61#8, 0x3E#8, 0x6C#8, 0x33#8],
   [0x27#8, 0x78#8, 0x2A#8, 0x75#8, 0x3D#8, 0x62#8, 0x30#8, 0x6F#8, 0x13#8, 0x4C#8, 0x1E#8, 0x41#8, 0x09#8, 0x56#8, 0x04#8, 0x5B#8]]

/-- `T[x]` (R122). -/
def crcTable (x : Byte) : Byte := crcTableRows.flatten.getD x.toNat 0#8

/-- The state after the whole frame with this command and these payload bytes has been emitted: TX, the counters, the
window, and the checksum unit and serializer as the emission leaves them (R131, R164, R209 to R214). -/
def withFrame (cmd : Byte) (payload : List Byte) (src : SerSrc) (base : Nat) (s : State) : State :=
  { s with
    tx := s.tx ++ frameBytes cmd payload, framesSent := s.framesSent + 1#32
    lastFcs := checksum (frameBody cmd payload), ackWait := true
    crc := checksum (frameBody cmd payload), crcCnt := 0#4, serCmd := cmd
    serLen := BitVec.ofNat 16 payload.length, serPos := BitVec.ofNat 16 payload.length
    serBase := BitVec.ofNat 32 base, serSrc := src, serHeld := none }

/-- `k` cycles of the checksum unit with no control asserted (R203). -/
def crcIdleCycles : Nat → State → Result
  | 0, s => .next s
  | k + 1, s => andThen (crcCycle false none s) (crcIdleCycles k)

/-- The bytes are loaded into the checksum unit one after the other, each with the eight cycles it takes (R205). -/
def crcFeed : List Byte → State → Result
  | [], s => .next s
  | b :: bs, s =>
    andThen (crcCycle false (some b) s) fun t => andThen (crcIdleCycles 8 t) (crcFeed bs)

/-- The operations a host or a link can apply but RESET: register accesses and link events (R255). -/
def isAccessOrEvent : Instr → Bool
  | .frameAllocateMemory => false
  | .frameBinaryBlock => false
  | .frameBinaryBlockLast _ => false
  | .ackSuccess => true
  | .ackError _ => true
  | .ackTimeout => true
  | .hostStart _ => true
  | .hostCtrlNop _ => true
  | .hostWriteImageLen _ => true
  | .hostWriteIgnored _ _ => true
  | .hostRead _ => true
  | .reset => false

/-- The move is a reset: the pin, or a clock cycle with `rst` (R200, R270). -/
def isReset : Input → Bool
  | .op w => w == .pin 1#1
  | .rx _ => false
  | .access _ _ _ _ => false
  | .linkReady _ => false
  | .loadImage _ _ => false
  | .clock p => p.rst

/-- A step from state `u` to state `v` other than a reset (R25, R169, R187): staying, or a transition listed there. -/
def stateStep (u v : UploadState) : Bool :=
  u == v || (u == .idle && (v == .allocateSent || v == .failed)) ||
    (u == .allocateSent && (v == .uploading || v == .complete || v == .failed)) ||
    (u == .uploading && (v == .complete || v == .failed))

/-- `s` with the fields that operation `i` may change taken from `t`: what a frame statement compares `t` with. -/
def changedBy (i : Instr) (s t : State) : State :=
  let emitted : State :=
    { s with
      tx := t.tx, framesSent := t.framesSent, lastFcs := t.lastFcs, ackWait := t.ackWait, crc := t.crc
      crcCnt := t.crcCnt, serCmd := t.serCmd, serLen := t.serLen, serPos := t.serPos, serBase := t.serBase
      serSrc := t.serSrc, serHeld := t.serHeld }
  let failed : State :=
    { s with
      state := t.state, errKind := t.errKind, failState := t.failState, errCode := t.errCode
      errBlock := t.errBlock, released := t.released, ackWait := t.ackWait }
  match i with
  | .frameAllocateMemory => emitted
  | .frameBinaryBlock => emitted
  | .frameBinaryBlockLast _ => emitted
  | .ackSuccess => { emitted with state := t.state, blockIndex := t.blockIndex, released := t.released }
  | .ackError _ => failed
  | .ackTimeout => failed
  | .hostStart _ =>
    { emitted with
      state := t.state, errKind := t.errKind, failState := t.failState, errCode := t.errCode
      errBlock := t.errBlock, released := t.released, blockCount := t.blockCount, allocSize := t.allocSize
      blockIndex := t.blockIndex }
  | .hostCtrlNop _ => s
  | .hostWriteImageLen _ => { s with imageLen := t.imageLen }
  | .hostWriteIgnored _ _ => s
  | .hostRead _ => { s with regRdata := t.regRdata }
  | .reset => { t with linkReady := s.linkReady, image := s.image, inputs := s.inputs }

end Sys2Proof.Safety
end

