-- ==== Sys2Proof/Certificates/Slice0/Obligations.lean ====
section
/-! DEFINITION. The statements for the provers, in the order of the spec's files. Each docstring names the rules it
formalises; OBLIGATIONS.json lists them. -/

open Sys2Proof Sys2Proof.Machine Sys2Proof.Safety

/-! ## ChecksumEngine (40_checksum.md) -/

/-- R118: CRC_BIT is `(crc >> 1) ^ (crc[0] ? 0x59 : 0x00)`. -/
def Obligations.CrcBitEqualsShiftForm : Prop :=
  ∀ c : Byte, crcBit c = (c >>> 1) ^^^ (if c.getLsbD 0 then 0x59#8 else 0x00#8)

/-- R117: bit 7 is 0 after every CRC_BIT and CRC_BYTE, and every CHECKSUM is at most 0x7F. -/
def Obligations.ChecksumTopBitIsZero : Prop :=
  (∀ c : Byte, (crcBit c).getLsbD 7 = false) ∧ (∀ c b : Byte, (crcByte c b).toNat ≤ 0x7F) ∧
  (∀ data : List Byte, (checksum data).toNat ≤ 0x7F) ∧
  (∀ (cmd : Byte) (payload : List Byte), (byteAt (frameBytes cmd payload) (4 + payload.length)).getLsbD 7 = false)

/-- R119: zero bytes leave crc 0, and leading zero bytes change no checksum. -/
def Obligations.ChecksumIgnoresLeadingZeros : Prop :=
  crcByte 0x00#8 0x00#8 = 0x00#8 ∧ (∀ k : Nat, checksum (List.replicate k 0x00#8) = 0x00#8) ∧
  ∀ (k : Nat) (data : List Byte), checksum (List.replicate k 0x00#8 ++ data) = checksum data

/-- R120: a sequence followed by its own checksum has checksum 0, so FRAME_CHECK may test that. -/
def Obligations.ChecksumWithItsOwnByteIsZero : Prop :=
  (∀ data : List Byte, checksum (data ++ [checksum data]) = 0x00#8) ∧
  ∀ (data : List Byte) (b : Byte), checksum (data ++ [b]) = 0x00#8 → b.getLsbD 7 = false → b = checksum data

/-- R121: CHECKSUM, CRC_BYTE and CRC_BIT are linear over bitwise exclusive or. -/
def Obligations.ChecksumIsLinear : Prop :=
  crcInit = 0x00#8 ∧
  (∀ c d : Byte, crcBit (c ^^^ d) = crcBit c ^^^ crcBit d) ∧
  (∀ c d b e : Byte, crcByte (c ^^^ d) (b ^^^ e) = crcByte c b ^^^ crcByte d e) ∧
  ∀ a b : List Byte, a.length = b.length →
    checksum (List.zipWith (fun x y => x ^^^ y) a b) = checksum a ^^^ checksum b

/-- R122: CRC_BYTE is one look-up in the table T of 95_test_vectors.md; T aliases at 0xB3, takes each value up to 0x7F
exactly twice, and so a change of value 0xB3 in one byte is not detected. -/
def Obligations.CrcByteFollowsTable : Prop :=
  (∀ c b : Byte, crcByte c b = crcTable (c ^^^ b)) ∧ (∀ x : Byte, crcTable x = checksum [x]) ∧
  (∀ x : Byte, crcTable x = crcTable (x ^^^ 0xB3#8)) ∧ checksum [0xB3#8] = 0x00#8 ∧
  checksum [0xB2#8] = checksum [0x01#8] ∧ checksum [0x01#8] = 0x5F#8 ∧
  (∀ v : Byte, crcTableRows.flatten.count v = if v.toNat ≤ 0x7F then 2 else 0) ∧
  ∀ (before : List Byte) (x : Byte) (after : List Byte),
    checksum (before ++ (x ^^^ 0xB3#8) :: after) = checksum (before ++ x :: after)

/-- R203, R205: the checksum unit's controls (and R204's fault of a load while busy); eight cycles after a load it holds
CRC_BYTE and is no longer busy, having been busy until then; cleared and then fed bytes with the waits, it holds their
CHECKSUM. -/
def Obligations.ChecksumUnitTakesEightCycles : Prop :=
  (∀ (load : Option Byte) (s : State), crcCycle true load s = .next { s with crc := 0x00#8, crcCnt := 0#4 }) ∧
  (∀ (b : Byte) (s : State), s.crcCnt ≠ 0#4 → crcCycle false (some b) s = .fault .crcLoadBusy) ∧
  (∀ s : State, s.crcCnt ≠ 0#4 →
    crcCycle false none s = .next { s with crc := crcBit s.crc, crcCnt := s.crcCnt - 1#4 }) ∧
  (∀ s : State, s.crcCnt = 0#4 → crcCycle false none s = .next s) ∧
  (∀ (b : Byte) (s : State), s.crcCnt = 0#4 →
    crcCycle false (some b) s = .next { s with crc := s.crc ^^^ b, crcCnt := 8#4 }) ∧
  (∀ (data : List Byte) (s : State),
    andThen (crcCycle true none s) (crcFeed data) = .next { s with crc := checksum data, crcCnt := 0#4 }) ∧
  ∀ (b : Byte) (s : State), s.crcCnt = 0#4 →
    (∀ k : Nat, k < 8 → ∃ t, andThen (crcCycle false (some b) s) (crcIdleCycles k) = .next t ∧ t.crcBusy = true) ∧
    andThen (crcCycle false (some b) s) (crcIdleCycles 8) = .next { s with crc := crcByte s.crc b, crcCnt := 0#4 }

/-! ## FrameCodec (41_frame_codec.md) -/

/-- R131, R136, with R81, R83, R84: the layout of a frame, its length, markers, Length field and check byte. -/
def Obligations.BuildFrameLayout : Prop :=
  ∀ (cmd : Byte) (payload : List Byte), payload.length ≤ 65535 →
    ∃ f, buildFrame cmd payload = some f ∧
      f = [0xAA#8] ++ ([cmd] ++ le16 (BitVec.ofNat 16 payload.length) ++ payload) ++
        [checksum ([cmd] ++ le16 (BitVec.ofNat 16 payload.length) ++ payload)] ++ [0x55#8] ∧
      f.length = 6 + payload.length ∧ frameLen f = payload.length ∧
      byteAt f 0 = 0xAA#8 ∧ byteAt f 1 = cmd ∧ byteAt f (5 + payload.length) = 0x55#8 ∧
      byteAt f (4 + payload.length) = checksum ((f.drop 1).take (3 + payload.length)) ∧
      (f.drop 4).take payload.length = payload

/-- R132: no frame for more than 65535 payload bytes, and the block asks only for the 4 bytes of an allocation or the
1 to 512 bytes of a block. -/
def Obligations.BuildFrameRefusesOverlongPayload : Prop :=
  (∀ (cmd : Byte) (payload : List Byte), buildFrame cmd payload = none ↔ 65535 < payload.length) ∧
  (∀ s : State, ((Payload.alloc).bytes s).length = 4) ∧
  (∀ (s : State) (i : Nat), i < blockCountOf s.imageLen.toNat →
    1 ≤ ((Payload.block i).bytes s).length ∧ ((Payload.block i).bytes s).length ≤ 512) ∧
  ∀ (lv : Level) (cmd : Byte) (p : Payload) (s : State), emitFrame lv cmd p s ≠ .refused .payloadTooLong

/-- R141 with R140: FRAME_CHECK gives back command and payload of every frame BUILD_FRAME makes for a legal command
and length; what an operation appends to the TX stream passes it. -/
def Obligations.FrameCheckAcceptsBuiltFrames : Prop :=
  (∀ (s t : State) (i : Instr), i ≠ .reset → exec i s = .next t →
    t.tx = s.tx ∨ ∃ f r, t.tx = s.tx ++ f ∧ frameCheck f = .ok r) ∧
  ∀ (cmd : Byte) (payload f : List Byte),
    (cmd = 0x01#8 ∧ payload.length = 4 ∨
      (cmd = 0x02#8 ∨ cmd = 0x03#8) ∧ 1 ≤ payload.length ∧ payload.length ≤ 512) →
    buildFrame cmd payload = some f → frameCheck f = .ok (cmd, payload)

/-- From R140: what FRAME_CHECK accepts is a frame BUILD_FRAME makes, of a legal command and length. -/
def Obligations.FrameCheckAcceptsOnlyBuiltFrames : Prop :=
  ∀ (f : List Byte) (cmd : Byte) (payload : List Byte), frameCheck f = .ok (cmd, payload) →
    buildFrame cmd payload = some f ∧
    (cmd = 0x01#8 ∧ payload.length = 4 ∨
      (cmd = 0x02#8 ∨ cmd = 0x03#8) ∧ 1 ≤ payload.length ∧ payload.length ≤ 512)

/-- The corner case R140 states: the BadChecksum test is the same as a nonzero CHECKSUM over the check byte too. It is
false of the rule's own pseudocode, which the model follows: a check byte that differs by 0xB3 (R122) also gives 0. -/
def Obligations.FrameCheckTestIsZeroTest : Prop :=
  ∀ f : List Byte, f.length = 6 + frameLen f →
    (checksum ((f.drop 1).take (3 + frameLen f)) ≠ byteAt f (4 + frameLen f) ↔
      checksum ((f.drop 1).take (4 + frameLen f)) ≠ 0x00#8)

/-- R137: an empty read is a timeout, any other read is its first byte. -/
def Obligations.ParseAckReadsFirstByte : Prop :=
  parseAck [] = .timeoutError ∧ ∀ (b : Byte) (more : List Byte), parseAck (b :: more) = .status b

/-! ## Segmentation (42_block_uploader.md) -/

/-- R162, R163, R165: the allocation size is a multiple of 512 within one block above L; both values fit their fields
up to MAX_IMAGE_LEN and not beyond; there is no block exactly for the empty image. -/
def Obligations.SegmentationArithmetic : Prop :=
  (∀ len : Nat, allocSizeOf len % 512 = 0 ∧ len ≤ allocSizeOf len ∧ allocSizeOf len < len + 512) ∧
  (∀ len : Nat, allocSizeOf len = len ↔ len % 512 = 0) ∧
  (∀ len : Nat, len ≤ 0xFFFFFE00 → blockCountOf len ≤ 0x7FFFFF ∧ allocSizeOf len ≤ 0xFFFFFE00) ∧
  (∀ len : Nat, 0xFFFFFE00 < len → 2 ^ 32 ≤ allocSizeOf len ∧ (len < 2 ^ 32 → allocSizeOf len = 2 ^ 32)) ∧
  ∀ len : Nat, blockCountOf len = 0 ↔ len = 0

/-- R166, R167: the blocks are 512 bytes but the last, which has the rest; laid end to end they are the image, byte
for byte, whatever the memory holds. -/
def Obligations.BlocksTileTheImage : Prop :=
  ∀ (m : Memory) (len : Nat),
    (∀ i, i + 1 < blockCountOf len → blockLen len i = 512) ∧
    (∀ i, i + 1 = blockCountOf len →
      blockLen len i = len - 512 * i ∧ 1 ≤ blockLen len i ∧ blockLen len i ≤ 512) ∧
    (∀ i, i < blockCountOf len → i * 512 + blockLen len i ≤ len) ∧
    ((List.range (blockCountOf len)).map (blockLen len)).sum = len ∧
    ((List.range (blockCountOf len)).map fun i => imageBytes m (i * 512) (blockLen len i)).flatten =
      imageBytes m 0 len

/-! ## The register view (10_state.md) -/

/-- R24 to R30: where the fields of STATUS stand and what their codes are. -/
def Obligations.StatusWordFields : Prop :=
  ∀ s : State,
    (s.readReg 0x04#6).extractLsb' 0 3 = (match s.state with
      | .idle => 0#3 | .allocateSent => 1#3 | .uploading => 2#3 | .complete => 3#3 | .failed => 4#3) ∧
    (s.readReg 0x04#6).getLsbD 3 = decide (s.state = .complete ∨ s.state = .failed) ∧
    (s.readReg 0x04#6).extractLsb' 4 3 = (match s.errKind with
      | .none => 0#3 | .transportOpen => 1#3 | .ackTimeout => 2#3 | .allocation => 3#3 | .transfer => 4#3) ∧
    (s.readReg 0x04#6).getLsbD 7 = false ∧
    (s.readReg 0x04#6).extractLsb' 8 3 = (match s.failState with
      | .idle => 0#3 | .allocateSent => 1#3 | .uploading => 2#3 | .complete => 3#3 | .failed => 4#3) ∧
    (s.readReg 0x04#6).getLsbD 11 = s.released ∧ (s.readReg 0x04#6).getLsbD 12 = s.linkReady ∧
    (s.readReg 0x04#6).extractLsb' 13 19 = 0#19 ∧ s.done = (s.readReg 0x04#6).getLsbD 3

/-- R22, R23, R31 to R36, R38: the register at each offset; narrow registers read 0 above their width, CTRL and the
reserved offsets read 0. -/
def Obligations.RegisterViewOffsets : Prop :=
  ∀ s : State,
    s.readReg 0x00#6 = 0#32 ∧ s.readReg 0x08#6 = s.imageLen ∧ (s.readReg 0x0C#6).toNat = s.blockCount.toNat ∧
    s.readReg 0x10#6 = s.allocSize ∧ (s.readReg 0x14#6).toNat = s.blockIndex.toNat ∧
    (s.readReg 0x18#6).toNat = s.errCode.toNat ∧ (s.readReg 0x1C#6).toNat = s.errBlock.toNat ∧
    s.readReg 0x20#6 = s.framesSent ∧ (s.readReg 0x24#6).toNat = s.lastFcs.toNat ∧
    ∀ off : BitVec 6, 0x28 ≤ off.toNat → s.readReg off = 0#32

/-- R42, R43: after reset every register reads 0 but LINK_READY, which reads the input; the checksum unit, the
serializer and the TX stream are at rest; IMAGE_MEM is not reset. Of the first state of all, and of RESET in any
state. -/
def Obligations.ResetRegistersReadZero : Prop :=
  (∀ (level : Bool) (off : BitVec 6),
    (State.readReg { State.reset with linkReady := level } off) =
      if off = 0x04#6 ∧ level = true then 0x00001000#32 else 0#32) ∧
  State.reset.state = .idle ∧ State.reset.crc = 0#8 ∧ State.reset.crcCnt = 0#4 ∧ State.reset.serPhase = .idle ∧
  State.reset.tx = [] ∧
  ∀ s : State, ∃ t, exec .reset s = .next t ∧ t.state = .idle ∧ t.errKind = .none ∧ t.failState = .idle ∧
    t.crc = 0#8 ∧ t.crcCnt = 0#4 ∧ t.serPhase = .idle ∧ t.tx = [] ∧ t.image = s.image ∧
    ∀ off : BitVec 6, t.readReg off = if off = 0x04#6 ∧ s.linkReady = true then 0x00001000#32 else 0#32

/-- R186, R65: a read returns the register's value in every state, 0 for a reserved offset, and changes nothing
else. -/
def Obligations.HostReadReturnsRegister : Prop :=
  ∀ (s : State) (off : BitVec 6), off.toNat % 4 = 0 →
    exec (.hostRead off) s = .next { s with regRdata := some (s.readReg off) } ∧
    (0x28 ≤ off.toNat → s.readReg off = 0#32)

/-- R185, R31: IMAGE_LEN is stored in Idle and the write is ignored in every other state. -/
def Obligations.ImageLenWrittenInIdleOnly : Prop :=
  ∀ (s : State) (len : Word),
    (s.state = .idle → exec (.hostWriteImageLen len) s = .next { s with imageLen := len }) ∧
    (s.state ≠ .idle → exec (.hostWriteImageLen len) s = .next s)

/-- R23, R24, R38: a CTRL write with START = 0 and a write of a read-only or reserved register have no effect. At the
offsets no HOST_WRITE_IGNORED word carries (0x00, 0x08, misaligned ones) that is the model's choice (log 14). -/
def Obligations.IgnoredWritesChangeNothing : Prop :=
  ∀ s : State, (∀ ignored, exec (.hostCtrlNop ignored) s = .next s) ∧
    ∀ off data, exec (.hostWriteIgnored off data) s = .next s

/-! ## START (42_block_uploader.md) -/

/-- R170 with R133 and R164: START in Idle latches the sizes, emits the allocation frame and moves to AllocateSent. What
`withFrame` says of the checksum unit and the serializer after the frame is the model's deduction (log 12). -/
def Obligations.StartSendsAllocationFrame : Prop :=
  ∀ (s : State) (ignored : BitVec 31), s.state = .idle → s.serPhase = .idle → s.linkReady = true →
    s.imageLen.toNat ≤ 0xFFFFFE00 →
    exec (.hostStart ignored) s = .next
      { withFrame 0x01#8 (le32 (BitVec.ofNat 32 ((s.imageLen.toNat + 511) / 512 * 512))) .alloc 0 s with
        blockCount := BitVec.ofNat 24 ((s.imageLen.toNat + 511) / 512)
        allocSize := BitVec.ofNat 32 ((s.imageLen.toNat + 511) / 512 * 512)
        blockIndex := 0#24, framesSent := 1#32, state := .allocateSent }

/-- R171, R172, R173: START with a too long image is refused before link_ready is looked at; with no link it raises
TransportOpenError; outside Idle it has no effect. -/
def Obligations.StartRefusedFailedOrIgnored : Prop :=
  ∀ (s : State) (ignored : BitVec 31),
    (s.state = .idle → 0xFFFFFE00 < s.imageLen.toNat →
      exec (.hostStart ignored) s = .refused .imageTooLong) ∧
    (s.state = .idle → s.imageLen.toNat ≤ 0xFFFFFE00 → s.linkReady = false →
      exec (.hostStart ignored) s = .next
        { s with state := .failed, errKind := .transportOpen, failState := .idle, errCode := 0#8,
                 errBlock := 0#24, released := true }) ∧
    (s.state ≠ .idle → exec (.hostStart ignored) s = .next s)

/-! ## Link events (42_block_uploader.md) -/

/-- R174: the allocation is acknowledged and block 0 is sent. What `withFrame` says of the checksum unit and the
serializer after the frame is the model's deduction (log 12). -/
def Obligations.AllocationAckSendsBlockZero : Prop :=
  ∀ s : State, s.state = .allocateSent → s.serPhase = .idle → Latched s → s.blockCount ≠ 0#24 →
    exec .ackSuccess s = .next
      { withFrame (if s.blockCount.toNat = 1 then 0x03#8 else 0x02#8) (blockSlice s 0) .image 0 s with
        state := .uploading, blockIndex := 0#24 }

/-- R176: a block is acknowledged and the next one is sent. What `withFrame` says of the checksum unit and the serializer
after the frame is the model's deduction (log 12). -/
def Obligations.BlockAckSendsNextBlock : Prop :=
  ∀ s : State, s.state = .uploading → s.serPhase = .idle → Latched s →
    s.blockIndex.toNat + 1 < s.blockCount.toNat →
    exec .ackSuccess s = .next
      { withFrame (if s.blockIndex.toNat + 2 = s.blockCount.toNat then 0x03#8 else 0x02#8)
          (blockSlice s (s.blockIndex.toNat + 1)) .image ((s.blockIndex.toNat + 1) * 512) s with
        blockIndex := s.blockIndex + 1#24 }

/-- R175, R177: the allocation of an empty image, or the last block, is acknowledged: Complete. -/
def Obligations.LastAckCompletesSession : Prop :=
  ∀ s : State, s.serPhase = .idle →
    (s.state = .allocateSent ∧ s.blockCount = 0#24 ∨
      s.state = .uploading ∧ s.blockIndex.toNat + 1 = s.blockCount.toNat) →
    exec .ackSuccess s = .next { s with state := .complete, released := true, ackWait := false }

/-- R180 with R243: a timeout of an open window fails the session. -/
def Obligations.TimeoutFailsSession : Prop :=
  ∀ s : State, s.serPhase = .idle → (s.state = .allocateSent ∨ s.state = .uploading) →
    exec .ackTimeout s = .next
      { s with state := .failed, errKind := .ackTimeout, failState := s.state, errCode := 0#8,
               errBlock := if s.state = .uploading then s.blockIndex else 0#24, released := true,
               ackWait := false }

/-- R181 with R243, R244: a nonzero first byte fails the session, recorded unchanged. -/
def Obligations.ErrorAckFailsSession : Prop :=
  ∀ (s : State) (code : Byte), s.serPhase = .idle → code ≠ 0x00#8 →
    (s.state = .allocateSent → exec (.ackError code) s = .next
      { s with state := .failed, errKind := .allocation, failState := .allocateSent, errCode := code,
               errBlock := 0#24, released := true, ackWait := false }) ∧
    (s.state = .uploading → exec (.ackError code) s = .next
      { s with state := .failed, errKind := .transfer, failState := .uploading, errCode := code,
               errBlock := s.blockIndex, released := true, ackWait := false })

/-- R184, and R217, R218 for a frame in emission: a link event with no open window has no effect. -/
def Obligations.EventsWithoutWindowDiscarded : Prop :=
  ∀ s : State,
    (s.state = .idle ∨ s.state = .complete ∨ s.state = .failed ∨ s.serPhase ≠ .idle) →
    exec .ackSuccess s = .next s ∧ (∀ code, exec (.ackError code) s = .next s) ∧ exec .ackTimeout s = .next s

/-- R183: in Complete and Failed nothing the host writes or the link delivers changes a register or emits a byte; a
read returns its value. The same of a clock cycle without `rst`, whatever its ports carry; a misaligned access is the
only one refused (R64). -/
def Obligations.TerminalStatesChangeNothing : Prop :=
  (∀ (s : State) (i : Instr), (s.state = .complete ∨ s.state = .failed) → isAccessOrEvent i = true → WellFormed i →
    ∃ r, exec i s = .next { s with regRdata := r } ∧ ((∀ off, i ≠ .hostRead off) → r = s.regRdata)) ∧
  ∀ (p : PortsIn) (s : State), Inv s → (s.state = .complete ∨ s.state = .failed) → p.rst = false →
    (p.regReq = true → p.regOff.toNat % 4 ≠ 0 → cycle p s = .refused .badRegisterAccess) ∧
    ((p.regReq = true → p.regOff.toNat % 4 = 0) →
      ∃ r, cycle p s = .next { s with linkReady := p.linkReady, regRdata := r } ∧
        (p.regReq = false ∨ p.regWe = true → r = s.regRdata))

/-! ## RESET (70_reset_and_hazards.md) -/

/-- R270: from every state RESET gives every register its reset value, emits nothing, and keeps the TX history. -/
def Obligations.ResetReturnsToIdle : Prop :=
  ∀ s : State, exec .reset s = .next
    { State.reset with
      linkReady := s.linkReady, image := s.image, inputs := s.inputs, txPast := s.txPast ++ s.tx }

/-! ## The frames as operations (41_frame_codec.md) -/

/-- R133 with R164: the allocation frame, emitted at the control point the model takes for the operation by itself
(log 7). What `withFrame` says of the checksum unit and the serializer after it is the model's deduction (log 12). -/
def Obligations.AllocationFrameOperationEmits : Prop :=
  ∀ s : State, s.state = .idle → s.ackWait = false → s.serPhase = .idle →
    exec .frameAllocateMemory s = .next (withFrame 0x01#8 (le32 s.allocSize) .alloc 0 s) ∧
    (frameBytes 0x01#8 (le32 s.allocSize)).length = 10

/-- R134, R135 with R164: the frame of block BLOCK_INDEX, emitted at the control point the model takes for the operation
by itself (log 7): 518 bytes with command 0x02 before the last block, and the rest of the image with command 0x03 for the
last. No run reaches that control point: in a session with no frame in emission the window is open. What `withFrame` says
of the checksum unit and the serializer is the model's deduction (log 12). -/
def Obligations.BlockFrameOperationsEmit : Prop :=
  ∀ s : State, (s.state = .allocateSent ∨ s.state = .uploading) → s.ackWait = false → s.serPhase = .idle →
    Latched s →
    (s.blockIndex.toNat + 1 < s.blockCount.toNat →
      exec .frameBinaryBlock s =
        .next (withFrame 0x02#8 (blockSlice s s.blockIndex.toNat) .image (s.blockIndex.toNat * 512) s) ∧
      (frameBytes 0x02#8 (blockSlice s s.blockIndex.toNat)).length = 518) ∧
    (∀ len : BitVec 16, s.blockIndex.toNat + 1 = s.blockCount.toNat →
      len.toNat = s.imageLen.toNat - 512 * s.blockIndex.toNat →
      exec (.frameBinaryBlockLast len) s =
        .next (withFrame 0x03#8 (blockSlice s s.blockIndex.toNat) .image (s.blockIndex.toNat * 512) s) ∧
      (frameBytes 0x03#8 (blockSlice s s.blockIndex.toNat)).length = 6 + len.toNat)

/-- The model's choice of log 7, from R90 and R165: away from its control point a frame operation emits nothing and
changes nothing. -/
def Obligations.FrameOperationsElsewhereDoNothing : Prop :=
  ∀ s : State,
    (s.allocationDue = false → exec .frameAllocateMemory s = .next s) ∧
    (s.blockDue = false → exec .frameBinaryBlock s = .next s) ∧
    (∀ len : BitVec 16,
      (s.lastBlockDue = false ∨ len.toNat ≠ blockLen s.imageLen.toNat s.blockIndex.toNat) →
      exec (.frameBinaryBlockLast len) s = .next s) ∧
    (s.state.terminal = true → s.allocationDue = false ∧ s.blockDue = false ∧ s.lastBlockDue = false) ∧
    (s.blockCount = 0#24 → s.blockDue = false ∧ s.lastBlockDue = false)

/-! ## Rules of the whole block -/

/-- R25, R169, R251, R271: STATE moves only by the listed transitions, whatever operation is executed; a step that is
no reset too, in every state of the invariant. So only reset leaves Complete and Failed. -/
def Obligations.StateMovesByListedTransitions : Prop :=
  (∀ (s t : State) (i : Instr), i ≠ .reset → exec i s = .next t → stateStep s.state t.state = true) ∧
  ∀ (s t : State) (i : Input) (rest : List Input), Inv s → s.inputs = i :: rest → isReset i = false →
    step s = .next t → stateStep s.state t.state = true

/-- R182, R29: RELEASED is set exactly in the operation that enters Complete or Failed, and stays until reset. -/
def Obligations.ReleasedSetOnTerminalEntry : Prop :=
  ∀ (s t : State) (i : Instr), i ≠ .reset → exec i s = .next t →
    t.released = (s.released || (!s.state.terminal && t.state.terminal)) ∧
    (s.state.terminal = true → t.state = s.state)

/-- R27, R35, R243: the error fields are written only in the operation that enters Failed and by reset. -/
def Obligations.ErrorFieldsWrittenOnFailure : Prop :=
  ∀ (s t : State) (i : Instr), i ≠ .reset → exec i s = .next t →
    (t.errKind = s.errKind ∧ t.failState = s.failState ∧ t.errCode = s.errCode ∧ t.errBlock = s.errBlock) ∨
    (s.state ≠ .failed ∧ t.state = .failed ∧ t.failState = s.state)

/-- R66, R141: an operation appends nothing to the TX stream or one whole frame, and every frame the block emits
passes FRAME_CHECK; reset only moves the stream to history. -/
def Obligations.TxGrowsByWholeFrames : Prop :=
  ∀ (s t : State) (i : Instr), exec i s = .next t →
    (i = .reset → wire t = wire s ∧ t.tx = []) ∧
    (i ≠ .reset → t.txPast = s.txPast ∧
      (t.tx = s.tx ∨ ∃ cmd payload,
        t.tx = s.tx ++ frameBytes cmd payload ∧ frameCheck (frameBytes cmd payload) = .ok (cmd, payload)))

/-- R62, R66 and the frame of every operation: IMAGE_MEM reads as before at every address, and the inputs of the block
are not its to change. -/
def Obligations.OperationsLeaveImageAndInputs : Prop :=
  ∀ (s t : State) (i : Instr), exec i s = .next t →
    t.image = s.image ∧ (∀ a, memByte? t.image a = memByte? s.image a) ∧
    (∀ a, imageByte t.image a = imageByte s.image a) ∧ t.linkReady = s.linkReady ∧ t.inputs = s.inputs

/-- The frame of every well-formed operation, from its own rule: the registers, streams and units that it does not write are
unchanged. -/
def Obligations.OperationsChangeOnlyTheirFields : Prop :=
  ∀ (s t : State) (i : Instr), WellFormed i → exec i s = .next t → t = changedBy i s t

/-- R188, R242: the outcomes of a session and the frames sent in each: of every state of the invariant that is Complete or
Failed, and of every step that ends a session, which records the state it ended in. -/
def Obligations.SessionOutcomesAndFrameCounts : Prop :=
  (∀ s : State, Inv s → (s.state = .complete ∨ s.state = .failed) → SessionOutcome s) ∧
  ∀ s t : State, Inv s → s.state ≠ .complete → s.state ≠ .failed → step s = .next t →
    (t.state = .complete ∨ t.state = .failed) →
    SessionOutcome t ∧ (t.state = .failed → t.failState = s.state) ∧ (t.state = .complete → s.state ≠ .idle)

/-! ## Steps, words and moves -/

/-- A step runs the decoded operation (R15). The model's choices around it: the move is taken off a list, and an empty list
leaves the state as it is (log 1); the read port is cleared (log 6); the format of a table word goes by its width
(log 11). -/
def Obligations.StepRunsDecodedOperation : Prop :=
  (∀ (s : State) (w : OpWord) (rest : List Input) (i : Instr), s.inputs = .op w :: rest → decode w = .ok i →
    step s = exec i { s with inputs := rest, regRdata := none }) ∧
  (∀ (s : State) (nbits w : Nat) (i : Instr), decodeTableWord nbits w = some i →
    step (s.withFetchWord nbits w) = exec i { s with regRdata := none }) ∧
  ∀ s : State, s.inputs = [] → step s = .next s

/-- R64, R88, R91, R93: illegal RXEV words, reserved commands, misaligned or wrong-width register accesses are refused,
each by name, and every legal access runs as its HOSTOP. -/
def Obligations.IllegalWordsRefused : Prop :=
  (∀ (s : State) (w : OpWord) (rest : List Input) (e : DecodeError), s.inputs = .op w :: rest →
    decode w = .error e → step s = .refused (.illegalWord e)) ∧
  (∀ status : Byte, status ≠ 0#8 → decode (.rxev (0#1 ++ status)) = .error .timeoutWithStatus) ∧
  (∀ (cmd : Byte) (len : BitVec 16), cmd ≠ 0x01#8 → cmd ≠ 0x02#8 → cmd ≠ 0x03#8 →
    decode (.frame (len ++ cmd ++ 0xAA#8)) = .error .reservedCommand) ∧
  (∀ (w : BitVec 1) (off : BitVec 6) (data : Word), off.toNat % 4 ≠ 0 →
    decode (.hostop (w ++ off ++ data)) = .error .misalignedOffset) ∧
  (∀ (s : State) (off : BitVec 6), off.toNat % 4 ≠ 0 → exec (.hostRead off) s = .refused .badRegisterAccess) ∧
  (∀ (s : State) (write : Bool) (width offset : Nat) (data : Word),
    (width ≠ 32 ∨ offset % 4 ≠ 0 ∨ 0x3F < offset) →
    runInput (.access write width offset data) s = .refused .badRegisterAccess) ∧
  ∀ (s : State) (offset : Nat) (data : Word), offset % 4 = 0 → offset ≤ 0x3F →
    runInput (.access false 32 offset data) s = exec (.hostRead (BitVec.ofNat 6 offset)) s ∧
    runInput (.access true 32 offset data) s =
      runInput (.op (.hostop (1#1 ++ BitVec.ofNat 6 offset ++ data))) s

/-- R67, R87, R88: a link read runs as the event of its first byte, whatever follows it. -/
def Obligations.LinkReadRunsAsFirstByte : Prop :=
  ∀ s : State, runInput (.rx []) s = exec .ackTimeout s ∧
    (∀ more, runInput (.rx (0x00#8 :: more)) s = exec .ackSuccess s) ∧
    ∀ (code : Byte) (more : List Byte), code ≠ 0x00#8 → runInput (.rx (code :: more)) s = exec (.ackError code) s

/-- R60, R62, R276: a host load is refused in a session; else the bytes read back, every other address reads as before
and nothing else changes. The canonical form of memory is kept. -/
def Obligations.HostLoadWritesImage : Prop :=
  ∀ (s : State) (addr : Word) (bytes : List Byte),
    ((s.state = .allocateSent ∨ s.state = .uploading) →
      runInput (.loadImage addr bytes) s = .refused .imageWriteInSession) ∧
    (s.state ≠ .allocateSent → s.state ≠ .uploading → addr.toNat + bytes.length ≤ 2 ^ 32 →
      ∃ m, runInput (.loadImage addr bytes) s = .next { s with image := m } ∧
        imageBytes m addr.toNat bytes.length = bytes ∧
        (∀ a, a < addr.toNat ∨ addr.toNat + bytes.length ≤ a → memByte? m a = memByte? s.image a) ∧
        (s.image.wf = true → m.wf = true))

/-- R80 to R98: decoding the encoding of a well-formed operation gives it back, for every operand. -/
def Obligations.DecodeOfEncode : Prop :=
  ∀ i : Instr, WellFormed i → decode (encode i) = .ok i

/-- R80 to R98: a word that decodes is the encoding of what it decodes to, so no two operations share a word; what it
decodes to is well-formed, but for the Length of a BinaryBlockLast header, which the table leaves open (log 11). -/
def Obligations.EncodeOfDecode : Prop :=
  ∀ (w : OpWord) (i : Instr), decode w = .ok i →
    encode i = w ∧ ((∀ len, i ≠ .frameBinaryBlockLast len) → WellFormed i)

/-- Words written out from the spec's tables (R81, R88, R96, R98) decode to the operations they stand for. -/
def Obligations.SpecWordsDecode : Prop :=
  decodeTableWord 32 0x000401AA = some .frameAllocateMemory ∧
  decodeTableWord 32 0x020002AA = some .frameBinaryBlock ∧
  decodeTableWord 32 0x005803AA = some (.frameBinaryBlockLast 88#16) ∧
  decodeTableWord 16 0x100 = some .ackSuccess ∧ decodeTableWord 16 0x107 = some (.ackError 0x07#8) ∧
  decodeTableWord 16 0x000 = some .ackTimeout ∧
  decodeTableWord 40 0x4000000001 = some (.hostStart 0#31) ∧
  decodeTableWord 40 0x4000000000 = some (.hostCtrlNop 0#31) ∧
  decodeTableWord 40 0x4800000258 = some (.hostWriteImageLen 600#32) ∧
  decodeTableWord 40 0x44FFFFFFFF = some (.hostWriteIgnored 0x04#6 0xFFFFFFFF#32) ∧
  decodeTableWord 40 0x0400000000 = some (.hostRead 0x04#6) ∧ decodeTableWord 8 1 = some .reset

/-! ## Invariants and headlines -/

/-- The invariants hold after reset (R42, R43). -/
def Obligations.ResetHasInvariants : Prop := Inv State.reset ∧ StreamInv State.reset

/-- Every step keeps the invariant: the state, error fields, latched sizes, block index, frame count, window and
serializer stay as the rules say they are, at both levels. -/
def Obligations.StepKeepsInvariant : Prop :=
  ∀ s t : State, Inv s → step s = .next t → Inv t

/-- R77, R78, R90, R95, R215, R221: every step keeps the TX stream of a session equal to its frames in order, whole,
then the transferred bytes of the frame in emission. -/
def Obligations.StepKeepsSessionStream : Prop :=
  ∀ s t : State, Inv s → StreamInv s → step s = .next t → StreamInv t

/-- R246: under the invariant no step reaches an internal condition that would be a model error; the only fault left is
a host load past the last address. No step is refused but for the reasons R62, R64, R88, R171 give. -/
def Obligations.RulesReachNoModelFault : Prop :=
  ∀ s : State, Inv s →
    (∀ e, step s = .fault e → e = .imageAddressOutside ∧
      ∃ addr bytes rest, s.inputs = .loadImage addr bytes :: rest ∧ 2 ^ 32 < addr.toNat + bytes.length) ∧
    step s ≠ .refused .payloadTooLong ∧ ∀ m, step s ≠ .refused (.notModelled m)

/-- R90, R188, R167: with a ready link and a success acknowledgment for every frame, START and bc + 1 acknowledgments
complete the session; TX is the allocation frame and then the blocks' frames in order, and the block payloads laid end
to end are the image. -/
def Obligations.SessionUploadsWholeImage : Prop :=
  ∀ (s : State) (ignored : BitVec 31), s.state = .idle → s.serPhase = .idle → s.linkReady = true →
    s.imageLen.toNat ≤ 0xFFFFFE00 →
    ∃ (t : State) (payloads : List (List Byte)),
      execAll (.hostStart ignored :: List.replicate (blockCountOf s.imageLen.toNat + 1) .ackSuccess) s = .next t ∧
      t.state = .complete ∧ t.released = true ∧ t.errKind = s.errKind ∧ t.image = s.image ∧
      payloads.length = blockCountOf s.imageLen.toNat ∧ t.framesSent.toNat = payloads.length + 1 ∧
      payloads.flatten = imageBytes s.image 0 s.imageLen.toNat ∧
      t.tx = s.tx ++ frameBytes 0x01#8 (le32 (BitVec.ofNat 32 (payloads.length * 512))) ++
        (payloads.dropLast.map (frameBytes 0x02#8)).flatten ++
        (payloads.getLast?.toList.map (frameBytes 0x03#8)).flatten

/-- R215, R221, R222: at the byte level, with both handshakes answered at once, a frame of n payload bytes takes
9 * (3 + n) + 3 cycles from the load of the serializer, and then every register and the TX stream are what the
transaction level gives. R222 says "about": the exact count rests on when the model requests an image byte (log 5) and
on the order within a cycle (log 9), the registers of the checksum unit and the serializer on log 12. -/
def Obligations.ByteLevelFrameIsTheWholeFrame : Prop :=
  ∀ (cmd : Byte) (p : Payload) (s u t : State),
    emitFrame .cycle cmd p s = .next u → emitFrame .transaction cmd p s = .next t →
    cycles (List.replicate (9 * (3 + p.size s) + 3) (readyPorts s.linkReady)) u = .next t

/-! ## The byte level (43_datapath.md) -/

/-- R200, R220, R249(a): a cycle with `rst` gives every register its reset value and does nothing else, whatever the
other ports carry; the bytes already transferred stay in the history. -/
def Obligations.CycleResetWins : Prop :=
  ∀ (p : PortsIn) (s : State), p.rst = true →
    cycle p s = .next
      { State.reset with
        linkReady := p.linkReady, image := s.image, inputs := s.inputs, txPast := s.txPast ++ s.tx }

/-- R210, R218: START in a cycle latches, loads the serializer with the allocation frame and moves to AllocateSent. -/
def Obligations.CycleStartLoadsSerializer : Prop :=
  ∀ (p : PortsIn) (s : State), p.rst = false → p.regReq = true → p.regWe = true → p.regOff = 0x00#6 →
    p.regWdata.getLsbD 0 = true → p.linkReady = true → s.state = .idle → s.serPhase = .idle → s.ackWait = false →
    s.imageLen.toNat ≤ 0xFFFFFE00 →
    cycle p s = .next
      { s with
        linkReady := true, state := .allocateSent
        blockCount := BitVec.ofNat 24 ((s.imageLen.toNat + 511) / 512)
        allocSize := BitVec.ofNat 32 ((s.imageLen.toNat + 511) / 512 * 512)
        blockIndex := 0#24, framesSent := 0#32, serPhase := .sof, serCmd := 0x01#8, serLen := 4#16
        serPos := 0#16, serBase := 0#32, serSrc := .alloc, serHeld := none, crc := 0#8, crcCnt := 0#4 }

/-- R216, R249(b), with R174 to R181: in a cycle of an open window a byte is taken, beating a timeout; else a timeout is
taken; else the block waits. The link sampling hands the event to the transition rules in that cycle and clears
`ack_wait`, whatever the state; and a whole cycle, without `rst` and a register access, gives what those rules say: an
error enters Failed, the last success Complete, any other success loads the serializer with the next block. -/
def Obligations.CycleByteBeatsTimeout : Prop :=
  (∀ (p : PortsIn) (s : State), s.ackWait = true →
    (p.rxValid = true → linkCycle p s = takeEvent .cycle (.status p.rxData) s) ∧
    (p.rxValid = false → p.rxTimeout = true → linkCycle p s = takeEvent .cycle .timeoutError s) ∧
    (p.rxValid = false → p.rxTimeout = false → linkCycle p s = .next s) ∧
    ∀ t, (p.rxValid = true ∨ p.rxTimeout = true) → linkCycle p s = .next t → t.ackWait = false) ∧
  ∀ (p : PortsIn) (s : State), Inv s → s.ackWait = true → p.rst = false → p.regReq = false →
    (∀ i : Nat, p.rxValid = true → p.rxData = 0x00#8 → i < s.blockCount.toNat →
      (s.state = .allocateSent ∧ i = 0 ∨ s.state = .uploading ∧ i = s.blockIndex.toNat + 1) →
      cycle p s = .next
        { s with
          linkReady := p.linkReady, ackWait := false, state := .uploading, blockIndex := BitVec.ofNat 24 i
          serPhase := .sof, serCmd := if i + 1 = s.blockCount.toNat then 0x03#8 else 0x02#8
          serLen := BitVec.ofNat 16 (min 512 (s.imageLen.toNat - i * 512)), serPos := 0#16
          serBase := BitVec.ofNat 32 (i * 512), serSrc := .image, serHeld := none, crc := 0#8, crcCnt := 0#4 }) ∧
    (p.rxValid = true → p.rxData = 0x00#8 →
      (s.state = .allocateSent ∧ s.blockCount = 0#24 ∨
        s.state = .uploading ∧ s.blockIndex.toNat + 1 = s.blockCount.toNat) →
      cycle p s = .next
        { s with linkReady := p.linkReady, ackWait := false, state := .complete, released := true }) ∧
    (p.rxValid = true → p.rxData ≠ 0x00#8 →
      cycle p s = .next
        { s with
          linkReady := p.linkReady, ackWait := false, state := .failed, failState := s.state
          errKind := if s.state = .allocateSent then .allocation else .transfer, errCode := p.rxData
          errBlock := if s.state = .allocateSent then 0#24 else s.blockIndex, released := true }) ∧
    (p.rxValid = false → p.rxTimeout = true →
      cycle p s = .next
        { s with
          linkReady := p.linkReady, ackWait := false, state := .failed, failState := s.state
          errKind := .ackTimeout, errCode := 0x00#8
          errBlock := if s.state = .allocateSent then 0#24 else s.blockIndex, released := true }) ∧
    (p.rxValid = false → p.rxTimeout = false → cycle p s = .next { s with linkReady := p.linkReady })

/-- R202, R96, R249(d): a register access in a cycle is its HOSTOP at that edge, and the rest of the cycle is as without
it, so the serializer goes on: a read answers at `reg_rdata` the value before the edge (log 9); a write that its rule
ignores makes no difference; IMAGE_LEN is stored in Idle; START fails or is refused as R171 and R172 say (with a ready
link: CycleStartLoadsSerializer); a misaligned offset is refused. -/
def Obligations.CycleRegisterPortRunsHostop : Prop :=
  ∀ (p : PortsIn) (s : State), p.regReq = true →
    (∀ i, decode (.hostop (hostopOfAccess p.regWe p.regOff p.regWdata)) = .ok i → (∀ ignored, i ≠ .hostStart ignored) →
      hostCycle p s = exec i s) ∧
    (p.rst = false → p.regOff.toNat % 4 ≠ 0 → cycle p s = .refused .badRegisterAccess) ∧
    (p.rst = false → p.regOff.toNat % 4 = 0 → p.regWe = false →
      cycle p s = andThen (cycle { p with regReq := false } s) fun t =>
        .next { t with regRdata := some (State.readReg { s with linkReady := p.linkReady } p.regOff) }) ∧
    (p.rst = false → p.regOff.toNat % 4 = 0 → p.regWe = true →
      (s.state ≠ .idle ∨ p.regOff ≠ 0x00#6 ∧ p.regOff ≠ 0x08#6 ∨
        p.regOff = 0x00#6 ∧ p.regWdata.getLsbD 0 = false) →
      cycle p s = cycle { p with regReq := false } s) ∧
    (Inv s → s.state = .idle → p.rst = false → p.regWe = true →
      (p.regOff = 0x08#6 →
        cycle p s = .next { s with linkReady := p.linkReady, imageLen := p.regWdata }) ∧
      (p.regOff = 0x00#6 → p.regWdata.getLsbD 0 = true → 0xFFFFFE00 < s.imageLen.toNat →
        cycle p s = .refused .imageTooLong) ∧
      (p.regOff = 0x00#6 → p.regWdata.getLsbD 0 = true → s.imageLen.toNat ≤ 0xFFFFFE00 → p.linkReady = false →
        cycle p s = .next
          { s with
            linkReady := false, state := .failed, errKind := .transportOpen, failState := .idle, errCode := 0x00#8
            errBlock := 0#24, released := true }))

/-- R217: with `ack_wait` 0 what the link delivers makes no difference to the cycle. -/
def Obligations.CycleDiscardsWithoutWindow : Prop :=
  ∀ (p : PortsIn) (s : State) (valid timeout : Bool) (data : Byte), s.ackWait = false →
    cycle p s = cycle { p with rxValid := valid, rxData := data, rxTimeout := timeout } s

/-- R206, R207: a byte presented and not accepted is held unchanged, and nothing is sent; an image request not
answered is held with its address, and an answered one gives the byte at its address. -/
def Obligations.CycleHoldsHandshakes : Prop :=
  ∀ (p : PortsIn) (s t : State), Inv s → p.rst = false → cycle p s = .next t →
    (∀ b, s.txByte? = some b → p.txReady = false → t.txByte? = some b ∧ t.tx = s.tx) ∧
    (∀ b, s.txByte? = some b → p.txReady = true → t.tx = s.tx ++ [b]) ∧
    (s.txByte? = none → t.tx = s.tx) ∧
    (s.imgReq = true → p.imgAck = false → t.imgReq = true ∧ t.imgAddr = s.imgAddr) ∧
    (s.imgReq = true → p.imgAck = true →
      t.imgReq = false ∧ t.serHeld = some (imageByte s.image s.imgAddr.toNat))
end

