-- ==== Sys2Proof/Laws/Memory.lean ====
section
/-! SUPPORT. The laws of IMAGE_MEM: a stored byte is read back, every other address reads as before, and every memory
operation keeps the canonical form. -/

namespace Sys2Proof.Machine

@[simp] theorem memByte?_nil (a : Nat) : memByte? [] a = none := rfl

/-- Reading back after one store (R60). -/
theorem memByte?_memStore (m : Memory) (a c : Nat) (b : Byte) :
    memByte? (memStore m a b) c = if a = c then some b else memByte? m c := by
  induction m with
  | nil => simp [memStore, memByte?]
  | cons kv m ih =>
    obtain ⟨k, v⟩ := kv
    by_cases h₁ : a < k
    · rw [memStore, if_pos h₁]
      simp [memByte?]
    · by_cases h₂ : a = k
      · subst h₂
        rw [memStore, if_neg h₁, if_pos rfl]
        by_cases h : a = c <;> simp [memByte?, h]
      · rw [memStore, if_neg h₁, if_neg h₂]
        by_cases hk : k = c
        · have hac : a ≠ c := by omega
          simp [memByte?, hk, hac]
        · simp [memByte?, hk, ih]

theorem memSorted_mono {m : Memory} {lo hi : Nat} (h : lo ≤ hi) (hm : memSorted hi m = true) :
    memSorted lo m = true := by
  cases m with
  | nil => rfl
  | cons kv m =>
    obtain ⟨k, v⟩ := kv
    simp only [memSorted, Bool.and_eq_true, decide_eq_true_eq] at hm ⊢
    exact ⟨⟨h.trans hm.1.1, hm.1.2⟩, hm.2⟩

theorem memSorted_memStore {m : Memory} {low a : Nat} (b : Byte) (hlow : low ≤ a) (ha : a < Config.imageSpace)
    (hm : memSorted low m = true) : memSorted low (memStore m a b) = true := by
  induction m generalizing low with
  | nil => simp only [memStore, memSorted, Bool.and_true, Bool.and_eq_true, decide_eq_true_eq]; exact ⟨hlow, ha⟩
  | cons kv m ih =>
    obtain ⟨k, v⟩ := kv
    simp only [memSorted, Bool.and_eq_true, decide_eq_true_eq] at hm
    unfold memStore
    split_ifs with h₁ h₂
    · simp only [memSorted, Bool.and_eq_true, decide_eq_true_eq]
      exact ⟨⟨hlow, ha⟩, ⟨⟨by omega, hm.1.2⟩, hm.2⟩⟩
    · subst h₂
      simp only [memSorted, Bool.and_eq_true, decide_eq_true_eq]
      exact ⟨⟨hlow, ha⟩, hm.2⟩
    · simp only [memSorted, Bool.and_eq_true, decide_eq_true_eq]
      exact ⟨⟨hm.1.1, hm.1.2⟩, ih (by omega) hm.2⟩

/-- One store keeps the canonical form. -/
theorem memStore_wf {m : Memory} {a : Nat} (b : Byte) (ha : a < Config.imageSpace) (hm : m.wf = true) :
    Memory.wf (memStore m a b) = true :=
  memSorted_memStore b (Nat.zero_le a) ha hm

/-- A load of bytes below the end of the address space keeps the canonical form. -/
theorem memLoad_wf {m : Memory} {a : Nat} {bs : List Byte} (ha : a + bs.length ≤ Config.imageSpace)
    (hm : m.wf = true) : Memory.wf (memLoad m a bs) = true := by
  induction bs generalizing m a with
  | nil => exact hm
  | cons b bs ih =>
    simp only [List.length_cons] at ha
    exact ih (by omega) (memStore_wf b (by omega) hm)

/-- Reading back after a load: the loaded range holds the bytes, every other address reads as before. -/
theorem memByte?_memLoad (m : Memory) (a c : Nat) (bs : List Byte) :
    memByte? (memLoad m a bs) c = if a ≤ c ∧ c < a + bs.length then bs[c - a]? else memByte? m c := by
  induction bs generalizing m a with
  | nil =>
    have h : ¬(a ≤ c ∧ c < a) := by omega
    simp [memLoad, h]
  | cons b bs ih =>
    rw [memLoad, ih, memByte?_memStore]
    simp only [List.length_cons]
    by_cases h₁ : a = c
    · subst h₁; simp
    · by_cases h₂ : a + 1 ≤ c ∧ c < a + 1 + bs.length
      · have h₃ : a ≤ c ∧ c < a + (bs.length + 1) := by omega
        have h₄ : c - a = (c - (a + 1)) + 1 := by omega
        rw [if_pos h₂, if_pos h₃, h₄, List.getElem?_cons_succ]
      · have h₃ : ¬(a ≤ c ∧ c < a + (bs.length + 1)) := by omega
        rw [if_neg h₂, if_neg h₃, if_neg h₁]

/-- Memory at reset has the canonical form. -/
theorem reset_image_wf : State.reset.image.wf = true := rfl

@[simp] theorem imageBytes_length (m : Memory) (a n : Nat) : (imageBytes m a n).length = n := by
  induction n generalizing a with
  | zero => rfl
  | succ n ih => simp [imageBytes, ih]

/-- A slice of consecutive bytes splits where one likes. -/
theorem imageBytes_add (m : Memory) (a j k : Nat) :
    imageBytes m a (j + k) = imageBytes m a j ++ imageBytes m (a + j) k := by
  induction j generalizing a with
  | zero => simp [imageBytes]
  | succ j ih =>
    have h : j + 1 + k = (j + k) + 1 := by omega
    rw [h, imageBytes, ih, imageBytes, List.cons_append, Nat.add_right_comm a 1 j, Nat.add_assoc]

end Sys2Proof.Machine
end

