-- ==== Sys2Proof/Laws/State.lean ====
section
/-! SUPPORT. What each named update does to each field of the state: one lemma per field per update, so that no later
proof unfolds a record update. -/

namespace Sys2Proof.Machine

/-! START's latching (R170). -/

@[simp] theorem latch_state (s : State) : (latch s).state = s.state := rfl
@[simp] theorem latch_errKind (s : State) : (latch s).errKind = s.errKind := rfl
@[simp] theorem latch_failState (s : State) : (latch s).failState = s.failState := rfl
@[simp] theorem latch_released (s : State) : (latch s).released = s.released := rfl
@[simp] theorem latch_imageLen (s : State) : (latch s).imageLen = s.imageLen := rfl
@[simp] theorem latch_blockCount (s : State) : (latch s).blockCount = BitVec.ofNat 24 (blockCountOf s.imageLen.toNat) := rfl
@[simp] theorem latch_allocSize (s : State) : (latch s).allocSize = BitVec.ofNat 32 (allocSizeOf s.imageLen.toNat) := rfl
@[simp] theorem latch_blockIndex (s : State) : (latch s).blockIndex = 0#24 := rfl
@[simp] theorem latch_errCode (s : State) : (latch s).errCode = s.errCode := rfl
@[simp] theorem latch_errBlock (s : State) : (latch s).errBlock = s.errBlock := rfl
@[simp] theorem latch_framesSent (s : State) : (latch s).framesSent = 0#32 := rfl
@[simp] theorem latch_lastFcs (s : State) : (latch s).lastFcs = s.lastFcs := rfl
@[simp] theorem latch_crc (s : State) : (latch s).crc = s.crc := rfl
@[simp] theorem latch_crcCnt (s : State) : (latch s).crcCnt = s.crcCnt := rfl
@[simp] theorem latch_serPhase (s : State) : (latch s).serPhase = s.serPhase := rfl
@[simp] theorem latch_serCmd (s : State) : (latch s).serCmd = s.serCmd := rfl
@[simp] theorem latch_serLen (s : State) : (latch s).serLen = s.serLen := rfl
@[simp] theorem latch_serPos (s : State) : (latch s).serPos = s.serPos := rfl
@[simp] theorem latch_serBase (s : State) : (latch s).serBase = s.serBase := rfl
@[simp] theorem latch_serSrc (s : State) : (latch s).serSrc = s.serSrc := rfl
@[simp] theorem latch_serHeld (s : State) : (latch s).serHeld = s.serHeld := rfl
@[simp] theorem latch_ackWait (s : State) : (latch s).ackWait = s.ackWait := rfl
@[simp] theorem latch_tx (s : State) : (latch s).tx = s.tx := rfl
@[simp] theorem latch_txPast (s : State) : (latch s).txPast = s.txPast := rfl
@[simp] theorem latch_linkReady (s : State) : (latch s).linkReady = s.linkReady := rfl
@[simp] theorem latch_image (s : State) : (latch s).image = s.image := rfl
@[simp] theorem latch_regRdata (s : State) : (latch s).regRdata = s.regRdata := rfl
@[simp] theorem latch_inputs (s : State) : (latch s).inputs = s.inputs := rfl

/-! A move of STATE (R14). -/

@[simp] theorem moveTo_state (u : UploadState) (s : State) : (moveTo u s).state = u := rfl
@[simp] theorem moveTo_errKind (u : UploadState) (s : State) : (moveTo u s).errKind = s.errKind := rfl
@[simp] theorem moveTo_failState (u : UploadState) (s : State) : (moveTo u s).failState = s.failState := rfl
@[simp] theorem moveTo_released (u : UploadState) (s : State) : (moveTo u s).released = s.released := rfl
@[simp] theorem moveTo_imageLen (u : UploadState) (s : State) : (moveTo u s).imageLen = s.imageLen := rfl
@[simp] theorem moveTo_blockCount (u : UploadState) (s : State) : (moveTo u s).blockCount = s.blockCount := rfl
@[simp] theorem moveTo_allocSize (u : UploadState) (s : State) : (moveTo u s).allocSize = s.allocSize := rfl
@[simp] theorem moveTo_blockIndex (u : UploadState) (s : State) : (moveTo u s).blockIndex = s.blockIndex := rfl
@[simp] theorem moveTo_errCode (u : UploadState) (s : State) : (moveTo u s).errCode = s.errCode := rfl
@[simp] theorem moveTo_errBlock (u : UploadState) (s : State) : (moveTo u s).errBlock = s.errBlock := rfl
@[simp] theorem moveTo_framesSent (u : UploadState) (s : State) : (moveTo u s).framesSent = s.framesSent := rfl
@[simp] theorem moveTo_lastFcs (u : UploadState) (s : State) : (moveTo u s).lastFcs = s.lastFcs := rfl
@[simp] theorem moveTo_crc (u : UploadState) (s : State) : (moveTo u s).crc = s.crc := rfl
@[simp] theorem moveTo_crcCnt (u : UploadState) (s : State) : (moveTo u s).crcCnt = s.crcCnt := rfl
@[simp] theorem moveTo_serPhase (u : UploadState) (s : State) : (moveTo u s).serPhase = s.serPhase := rfl
@[simp] theorem moveTo_serCmd (u : UploadState) (s : State) : (moveTo u s).serCmd = s.serCmd := rfl
@[simp] theorem moveTo_serLen (u : UploadState) (s : State) : (moveTo u s).serLen = s.serLen := rfl
@[simp] theorem moveTo_serPos (u : UploadState) (s : State) : (moveTo u s).serPos = s.serPos := rfl
@[simp] theorem moveTo_serBase (u : UploadState) (s : State) : (moveTo u s).serBase = s.serBase := rfl
@[simp] theorem moveTo_serSrc (u : UploadState) (s : State) : (moveTo u s).serSrc = s.serSrc := rfl
@[simp] theorem moveTo_serHeld (u : UploadState) (s : State) : (moveTo u s).serHeld = s.serHeld := rfl
@[simp] theorem moveTo_ackWait (u : UploadState) (s : State) : (moveTo u s).ackWait = s.ackWait := rfl
@[simp] theorem moveTo_tx (u : UploadState) (s : State) : (moveTo u s).tx = s.tx := rfl
@[simp] theorem moveTo_txPast (u : UploadState) (s : State) : (moveTo u s).txPast = s.txPast := rfl
@[simp] theorem moveTo_linkReady (u : UploadState) (s : State) : (moveTo u s).linkReady = s.linkReady := rfl
@[simp] theorem moveTo_image (u : UploadState) (s : State) : (moveTo u s).image = s.image := rfl
@[simp] theorem moveTo_regRdata (u : UploadState) (s : State) : (moveTo u s).regRdata = s.regRdata := rfl
@[simp] theorem moveTo_inputs (u : UploadState) (s : State) : (moveTo u s).inputs = s.inputs := rfl

/-! A move of BLOCK_INDEX (R174, R176). -/

@[simp] theorem atBlock_state (i : BlockNum) (s : State) : (atBlock i s).state = s.state := rfl
@[simp] theorem atBlock_errKind (i : BlockNum) (s : State) : (atBlock i s).errKind = s.errKind := rfl
@[simp] theorem atBlock_failState (i : BlockNum) (s : State) : (atBlock i s).failState = s.failState := rfl
@[simp] theorem atBlock_released (i : BlockNum) (s : State) : (atBlock i s).released = s.released := rfl
@[simp] theorem atBlock_imageLen (i : BlockNum) (s : State) : (atBlock i s).imageLen = s.imageLen := rfl
@[simp] theorem atBlock_blockCount (i : BlockNum) (s : State) : (atBlock i s).blockCount = s.blockCount := rfl
@[simp] theorem atBlock_allocSize (i : BlockNum) (s : State) : (atBlock i s).allocSize = s.allocSize := rfl
@[simp] theorem atBlock_blockIndex (i : BlockNum) (s : State) : (atBlock i s).blockIndex = i := rfl
@[simp] theorem atBlock_errCode (i : BlockNum) (s : State) : (atBlock i s).errCode = s.errCode := rfl
@[simp] theorem atBlock_errBlock (i : BlockNum) (s : State) : (atBlock i s).errBlock = s.errBlock := rfl
@[simp] theorem atBlock_framesSent (i : BlockNum) (s : State) : (atBlock i s).framesSent = s.framesSent := rfl
@[simp] theorem atBlock_lastFcs (i : BlockNum) (s : State) : (atBlock i s).lastFcs = s.lastFcs := rfl
@[simp] theorem atBlock_crc (i : BlockNum) (s : State) : (atBlock i s).crc = s.crc := rfl
@[simp] theorem atBlock_crcCnt (i : BlockNum) (s : State) : (atBlock i s).crcCnt = s.crcCnt := rfl
@[simp] theorem atBlock_serPhase (i : BlockNum) (s : State) : (atBlock i s).serPhase = s.serPhase := rfl
@[simp] theorem atBlock_serCmd (i : BlockNum) (s : State) : (atBlock i s).serCmd = s.serCmd := rfl
@[simp] theorem atBlock_serLen (i : BlockNum) (s : State) : (atBlock i s).serLen = s.serLen := rfl
@[simp] theorem atBlock_serPos (i : BlockNum) (s : State) : (atBlock i s).serPos = s.serPos := rfl
@[simp] theorem atBlock_serBase (i : BlockNum) (s : State) : (atBlock i s).serBase = s.serBase := rfl
@[simp] theorem atBlock_serSrc (i : BlockNum) (s : State) : (atBlock i s).serSrc = s.serSrc := rfl
@[simp] theorem atBlock_serHeld (i : BlockNum) (s : State) : (atBlock i s).serHeld = s.serHeld := rfl
@[simp] theorem atBlock_ackWait (i : BlockNum) (s : State) : (atBlock i s).ackWait = s.ackWait := rfl
@[simp] theorem atBlock_tx (i : BlockNum) (s : State) : (atBlock i s).tx = s.tx := rfl
@[simp] theorem atBlock_txPast (i : BlockNum) (s : State) : (atBlock i s).txPast = s.txPast := rfl
@[simp] theorem atBlock_linkReady (i : BlockNum) (s : State) : (atBlock i s).linkReady = s.linkReady := rfl
@[simp] theorem atBlock_image (i : BlockNum) (s : State) : (atBlock i s).image = s.image := rfl
@[simp] theorem atBlock_regRdata (i : BlockNum) (s : State) : (atBlock i s).regRdata = s.regRdata := rfl
@[simp] theorem atBlock_inputs (i : BlockNum) (s : State) : (atBlock i s).inputs = s.inputs := rfl

/-! The answer of a window (R178). -/

@[simp] theorem closeWindow_state (s : State) : (closeWindow s).state = s.state := rfl
@[simp] theorem closeWindow_errKind (s : State) : (closeWindow s).errKind = s.errKind := rfl
@[simp] theorem closeWindow_failState (s : State) : (closeWindow s).failState = s.failState := rfl
@[simp] theorem closeWindow_released (s : State) : (closeWindow s).released = s.released := rfl
@[simp] theorem closeWindow_imageLen (s : State) : (closeWindow s).imageLen = s.imageLen := rfl
@[simp] theorem closeWindow_blockCount (s : State) : (closeWindow s).blockCount = s.blockCount := rfl
@[simp] theorem closeWindow_allocSize (s : State) : (closeWindow s).allocSize = s.allocSize := rfl
@[simp] theorem closeWindow_blockIndex (s : State) : (closeWindow s).blockIndex = s.blockIndex := rfl
@[simp] theorem closeWindow_errCode (s : State) : (closeWindow s).errCode = s.errCode := rfl
@[simp] theorem closeWindow_errBlock (s : State) : (closeWindow s).errBlock = s.errBlock := rfl
@[simp] theorem closeWindow_framesSent (s : State) : (closeWindow s).framesSent = s.framesSent := rfl
@[simp] theorem closeWindow_lastFcs (s : State) : (closeWindow s).lastFcs = s.lastFcs := rfl
@[simp] theorem closeWindow_crc (s : State) : (closeWindow s).crc = s.crc := rfl
@[simp] theorem closeWindow_crcCnt (s : State) : (closeWindow s).crcCnt = s.crcCnt := rfl
@[simp] theorem closeWindow_serPhase (s : State) : (closeWindow s).serPhase = s.serPhase := rfl
@[simp] theorem closeWindow_serCmd (s : State) : (closeWindow s).serCmd = s.serCmd := rfl
@[simp] theorem closeWindow_serLen (s : State) : (closeWindow s).serLen = s.serLen := rfl
@[simp] theorem closeWindow_serPos (s : State) : (closeWindow s).serPos = s.serPos := rfl
@[simp] theorem closeWindow_serBase (s : State) : (closeWindow s).serBase = s.serBase := rfl
@[simp] theorem closeWindow_serSrc (s : State) : (closeWindow s).serSrc = s.serSrc := rfl
@[simp] theorem closeWindow_serHeld (s : State) : (closeWindow s).serHeld = s.serHeld := rfl
@[simp] theorem closeWindow_ackWait (s : State) : (closeWindow s).ackWait = false := rfl
@[simp] theorem closeWindow_tx (s : State) : (closeWindow s).tx = s.tx := rfl
@[simp] theorem closeWindow_txPast (s : State) : (closeWindow s).txPast = s.txPast := rfl
@[simp] theorem closeWindow_linkReady (s : State) : (closeWindow s).linkReady = s.linkReady := rfl
@[simp] theorem closeWindow_image (s : State) : (closeWindow s).image = s.image := rfl
@[simp] theorem closeWindow_regRdata (s : State) : (closeWindow s).regRdata = s.regRdata := rfl
@[simp] theorem closeWindow_inputs (s : State) : (closeWindow s).inputs = s.inputs := rfl

/-! AwaitAck (R178). -/

@[simp] theorem awaitAck_state (s : State) : (awaitAck s).state = s.state := rfl
@[simp] theorem awaitAck_errKind (s : State) : (awaitAck s).errKind = s.errKind := rfl
@[simp] theorem awaitAck_failState (s : State) : (awaitAck s).failState = s.failState := rfl
@[simp] theorem awaitAck_released (s : State) : (awaitAck s).released = s.released := rfl
@[simp] theorem awaitAck_imageLen (s : State) : (awaitAck s).imageLen = s.imageLen := rfl
@[simp] theorem awaitAck_blockCount (s : State) : (awaitAck s).blockCount = s.blockCount := rfl
@[simp] theorem awaitAck_allocSize (s : State) : (awaitAck s).allocSize = s.allocSize := rfl
@[simp] theorem awaitAck_blockIndex (s : State) : (awaitAck s).blockIndex = s.blockIndex := rfl
@[simp] theorem awaitAck_errCode (s : State) : (awaitAck s).errCode = s.errCode := rfl
@[simp] theorem awaitAck_errBlock (s : State) : (awaitAck s).errBlock = s.errBlock := rfl
@[simp] theorem awaitAck_framesSent (s : State) : (awaitAck s).framesSent = s.framesSent := rfl
@[simp] theorem awaitAck_lastFcs (s : State) : (awaitAck s).lastFcs = s.lastFcs := rfl
@[simp] theorem awaitAck_crc (s : State) : (awaitAck s).crc = s.crc := rfl
@[simp] theorem awaitAck_crcCnt (s : State) : (awaitAck s).crcCnt = s.crcCnt := rfl
@[simp] theorem awaitAck_serPhase (s : State) : (awaitAck s).serPhase = s.serPhase := rfl
@[simp] theorem awaitAck_serCmd (s : State) : (awaitAck s).serCmd = s.serCmd := rfl
@[simp] theorem awaitAck_serLen (s : State) : (awaitAck s).serLen = s.serLen := rfl
@[simp] theorem awaitAck_serPos (s : State) : (awaitAck s).serPos = s.serPos := rfl
@[simp] theorem awaitAck_serBase (s : State) : (awaitAck s).serBase = s.serBase := rfl
@[simp] theorem awaitAck_serSrc (s : State) : (awaitAck s).serSrc = s.serSrc := rfl
@[simp] theorem awaitAck_serHeld (s : State) : (awaitAck s).serHeld = s.serHeld := rfl
@[simp] theorem awaitAck_ackWait (s : State) : (awaitAck s).ackWait = true := rfl
@[simp] theorem awaitAck_tx (s : State) : (awaitAck s).tx = s.tx := rfl
@[simp] theorem awaitAck_txPast (s : State) : (awaitAck s).txPast = s.txPast := rfl
@[simp] theorem awaitAck_linkReady (s : State) : (awaitAck s).linkReady = s.linkReady := rfl
@[simp] theorem awaitAck_image (s : State) : (awaitAck s).image = s.image := rfl
@[simp] theorem awaitAck_regRdata (s : State) : (awaitAck s).regRdata = s.regRdata := rfl
@[simp] theorem awaitAck_inputs (s : State) : (awaitAck s).inputs = s.inputs := rfl

/-! TxEmit (R66). -/

@[simp] theorem txEmit_state (f : List Byte) (s : State) : (txEmit f s).state = s.state := rfl
@[simp] theorem txEmit_errKind (f : List Byte) (s : State) : (txEmit f s).errKind = s.errKind := rfl
@[simp] theorem txEmit_failState (f : List Byte) (s : State) : (txEmit f s).failState = s.failState := rfl
@[simp] theorem txEmit_released (f : List Byte) (s : State) : (txEmit f s).released = s.released := rfl
@[simp] theorem txEmit_imageLen (f : List Byte) (s : State) : (txEmit f s).imageLen = s.imageLen := rfl
@[simp] theorem txEmit_blockCount (f : List Byte) (s : State) : (txEmit f s).blockCount = s.blockCount := rfl
@[simp] theorem txEmit_allocSize (f : List Byte) (s : State) : (txEmit f s).allocSize = s.allocSize := rfl
@[simp] theorem txEmit_blockIndex (f : List Byte) (s : State) : (txEmit f s).blockIndex = s.blockIndex := rfl
@[simp] theorem txEmit_errCode (f : List Byte) (s : State) : (txEmit f s).errCode = s.errCode := rfl
@[simp] theorem txEmit_errBlock (f : List Byte) (s : State) : (txEmit f s).errBlock = s.errBlock := rfl
@[simp] theorem txEmit_framesSent (f : List Byte) (s : State) : (txEmit f s).framesSent = s.framesSent := rfl
@[simp] theorem txEmit_lastFcs (f : List Byte) (s : State) : (txEmit f s).lastFcs = s.lastFcs := rfl
@[simp] theorem txEmit_crc (f : List Byte) (s : State) : (txEmit f s).crc = s.crc := rfl
@[simp] theorem txEmit_crcCnt (f : List Byte) (s : State) : (txEmit f s).crcCnt = s.crcCnt := rfl
@[simp] theorem txEmit_serPhase (f : List Byte) (s : State) : (txEmit f s).serPhase = s.serPhase := rfl
@[simp] theorem txEmit_serCmd (f : List Byte) (s : State) : (txEmit f s).serCmd = s.serCmd := rfl
@[simp] theorem txEmit_serLen (f : List Byte) (s : State) : (txEmit f s).serLen = s.serLen := rfl
@[simp] theorem txEmit_serPos (f : List Byte) (s : State) : (txEmit f s).serPos = s.serPos := rfl
@[simp] theorem txEmit_serBase (f : List Byte) (s : State) : (txEmit f s).serBase = s.serBase := rfl
@[simp] theorem txEmit_serSrc (f : List Byte) (s : State) : (txEmit f s).serSrc = s.serSrc := rfl
@[simp] theorem txEmit_serHeld (f : List Byte) (s : State) : (txEmit f s).serHeld = s.serHeld := rfl
@[simp] theorem txEmit_ackWait (f : List Byte) (s : State) : (txEmit f s).ackWait = s.ackWait := rfl
@[simp] theorem txEmit_tx (f : List Byte) (s : State) : (txEmit f s).tx = s.tx ++ f := rfl
@[simp] theorem txEmit_txPast (f : List Byte) (s : State) : (txEmit f s).txPast = s.txPast := rfl
@[simp] theorem txEmit_linkReady (f : List Byte) (s : State) : (txEmit f s).linkReady = s.linkReady := rfl
@[simp] theorem txEmit_image (f : List Byte) (s : State) : (txEmit f s).image = s.image := rfl
@[simp] theorem txEmit_regRdata (f : List Byte) (s : State) : (txEmit f s).regRdata = s.regRdata := rfl
@[simp] theorem txEmit_inputs (f : List Byte) (s : State) : (txEmit f s).inputs = s.inputs := rfl

/-! The counters and the serializer after a whole frame (R164). -/

@[simp] theorem frameSent_state (cmd : Byte) (p : Payload) (f : List Byte) (s : State) : (frameSent cmd p f s).state = s.state := rfl
@[simp] theorem frameSent_errKind (cmd : Byte) (p : Payload) (f : List Byte) (s : State) : (frameSent cmd p f s).errKind = s.errKind := rfl
@[simp] theorem frameSent_failState (cmd : Byte) (p : Payload) (f : List Byte) (s : State) : (frameSent cmd p f s).failState = s.failState := rfl
@[simp] theorem frameSent_released (cmd : Byte) (p : Payload) (f : List Byte) (s : State) : (frameSent cmd p f s).released = s.released := rfl
@[simp] theorem frameSent_imageLen (cmd : Byte) (p : Payload) (f : List Byte) (s : State) : (frameSent cmd p f s).imageLen = s.imageLen := rfl
@[simp] theorem frameSent_blockCount (cmd : Byte) (p : Payload) (f : List Byte) (s : State) : (frameSent cmd p f s).blockCount = s.blockCount := rfl
@[simp] theorem frameSent_allocSize (cmd : Byte) (p : Payload) (f : List Byte) (s : State) : (frameSent cmd p f s).allocSize = s.allocSize := rfl
@[simp] theorem frameSent_blockIndex (cmd : Byte) (p : Payload) (f : List Byte) (s : State) : (frameSent cmd p f s).blockIndex = s.blockIndex := rfl
@[simp] theorem frameSent_errCode (cmd : Byte) (p : Payload) (f : List Byte) (s : State) : (frameSent cmd p f s).errCode = s.errCode := rfl
@[simp] theorem frameSent_errBlock (cmd : Byte) (p : Payload) (f : List Byte) (s : State) : (frameSent cmd p f s).errBlock = s.errBlock := rfl
@[simp] theorem frameSent_framesSent (cmd : Byte) (p : Payload) (f : List Byte) (s : State) : (frameSent cmd p f s).framesSent = s.framesSent + 1#32 := rfl
@[simp] theorem frameSent_lastFcs (cmd : Byte) (p : Payload) (f : List Byte) (s : State) : (frameSent cmd p f s).lastFcs = byteAt f (f.length - 2) := rfl
@[simp] theorem frameSent_crc (cmd : Byte) (p : Payload) (f : List Byte) (s : State) : (frameSent cmd p f s).crc = byteAt f (f.length - 2) := rfl
@[simp] theorem frameSent_crcCnt (cmd : Byte) (p : Payload) (f : List Byte) (s : State) : (frameSent cmd p f s).crcCnt = 0#4 := rfl
@[simp] theorem frameSent_serPhase (cmd : Byte) (p : Payload) (f : List Byte) (s : State) : (frameSent cmd p f s).serPhase = s.serPhase := rfl
@[simp] theorem frameSent_serCmd (cmd : Byte) (p : Payload) (f : List Byte) (s : State) : (frameSent cmd p f s).serCmd = cmd := rfl
@[simp] theorem frameSent_serLen (cmd : Byte) (p : Payload) (f : List Byte) (s : State) : (frameSent cmd p f s).serLen = BitVec.ofNat 16 (p.size s) := rfl
@[simp] theorem frameSent_serPos (cmd : Byte) (p : Payload) (f : List Byte) (s : State) : (frameSent cmd p f s).serPos = BitVec.ofNat 16 (p.size s) := rfl
@[simp] theorem frameSent_serBase (cmd : Byte) (p : Payload) (f : List Byte) (s : State) : (frameSent cmd p f s).serBase = p.base := rfl
@[simp] theorem frameSent_serSrc (cmd : Byte) (p : Payload) (f : List Byte) (s : State) : (frameSent cmd p f s).serSrc = p.src := rfl
@[simp] theorem frameSent_serHeld (cmd : Byte) (p : Payload) (f : List Byte) (s : State) : (frameSent cmd p f s).serHeld = none := rfl
@[simp] theorem frameSent_ackWait (cmd : Byte) (p : Payload) (f : List Byte) (s : State) : (frameSent cmd p f s).ackWait = s.ackWait := rfl
@[simp] theorem frameSent_tx (cmd : Byte) (p : Payload) (f : List Byte) (s : State) : (frameSent cmd p f s).tx = s.tx := rfl
@[simp] theorem frameSent_txPast (cmd : Byte) (p : Payload) (f : List Byte) (s : State) : (frameSent cmd p f s).txPast = s.txPast := rfl
@[simp] theorem frameSent_linkReady (cmd : Byte) (p : Payload) (f : List Byte) (s : State) : (frameSent cmd p f s).linkReady = s.linkReady := rfl
@[simp] theorem frameSent_image (cmd : Byte) (p : Payload) (f : List Byte) (s : State) : (frameSent cmd p f s).image = s.image := rfl
@[simp] theorem frameSent_regRdata (cmd : Byte) (p : Payload) (f : List Byte) (s : State) : (frameSent cmd p f s).regRdata = s.regRdata := rfl
@[simp] theorem frameSent_inputs (cmd : Byte) (p : Payload) (f : List Byte) (s : State) : (frameSent cmd p f s).inputs = s.inputs := rfl

/-! The load of the serializer (R210). -/

@[simp] theorem serLoaded_state (cmd : Byte) (p : Payload) (s : State) : (serLoaded cmd p s).state = s.state := rfl
@[simp] theorem serLoaded_errKind (cmd : Byte) (p : Payload) (s : State) : (serLoaded cmd p s).errKind = s.errKind := rfl
@[simp] theorem serLoaded_failState (cmd : Byte) (p : Payload) (s : State) : (serLoaded cmd p s).failState = s.failState := rfl
@[simp] theorem serLoaded_released (cmd : Byte) (p : Payload) (s : State) : (serLoaded cmd p s).released = s.released := rfl
@[simp] theorem serLoaded_imageLen (cmd : Byte) (p : Payload) (s : State) : (serLoaded cmd p s).imageLen = s.imageLen := rfl
@[simp] theorem serLoaded_blockCount (cmd : Byte) (p : Payload) (s : State) : (serLoaded cmd p s).blockCount = s.blockCount := rfl
@[simp] theorem serLoaded_allocSize (cmd : Byte) (p : Payload) (s : State) : (serLoaded cmd p s).allocSize = s.allocSize := rfl
@[simp] theorem serLoaded_blockIndex (cmd : Byte) (p : Payload) (s : State) : (serLoaded cmd p s).blockIndex = s.blockIndex := rfl
@[simp] theorem serLoaded_errCode (cmd : Byte) (p : Payload) (s : State) : (serLoaded cmd p s).errCode = s.errCode := rfl
@[simp] theorem serLoaded_errBlock (cmd : Byte) (p : Payload) (s : State) : (serLoaded cmd p s).errBlock = s.errBlock := rfl
@[simp] theorem serLoaded_framesSent (cmd : Byte) (p : Payload) (s : State) : (serLoaded cmd p s).framesSent = s.framesSent := rfl
@[simp] theorem serLoaded_lastFcs (cmd : Byte) (p : Payload) (s : State) : (serLoaded cmd p s).lastFcs = s.lastFcs := rfl
@[simp] theorem serLoaded_crc (cmd : Byte) (p : Payload) (s : State) : (serLoaded cmd p s).crc = crcInit := rfl
@[simp] theorem serLoaded_crcCnt (cmd : Byte) (p : Payload) (s : State) : (serLoaded cmd p s).crcCnt = 0#4 := rfl
@[simp] theorem serLoaded_serPhase (cmd : Byte) (p : Payload) (s : State) : (serLoaded cmd p s).serPhase = .sof := rfl
@[simp] theorem serLoaded_serCmd (cmd : Byte) (p : Payload) (s : State) : (serLoaded cmd p s).serCmd = cmd := rfl
@[simp] theorem serLoaded_serLen (cmd : Byte) (p : Payload) (s : State) : (serLoaded cmd p s).serLen = BitVec.ofNat 16 (p.size s) := rfl
@[simp] theorem serLoaded_serPos (cmd : Byte) (p : Payload) (s : State) : (serLoaded cmd p s).serPos = 0#16 := rfl
@[simp] theorem serLoaded_serBase (cmd : Byte) (p : Payload) (s : State) : (serLoaded cmd p s).serBase = p.base := rfl
@[simp] theorem serLoaded_serSrc (cmd : Byte) (p : Payload) (s : State) : (serLoaded cmd p s).serSrc = p.src := rfl
@[simp] theorem serLoaded_serHeld (cmd : Byte) (p : Payload) (s : State) : (serLoaded cmd p s).serHeld = none := rfl
@[simp] theorem serLoaded_ackWait (cmd : Byte) (p : Payload) (s : State) : (serLoaded cmd p s).ackWait = s.ackWait := rfl
@[simp] theorem serLoaded_tx (cmd : Byte) (p : Payload) (s : State) : (serLoaded cmd p s).tx = s.tx := rfl
@[simp] theorem serLoaded_txPast (cmd : Byte) (p : Payload) (s : State) : (serLoaded cmd p s).txPast = s.txPast := rfl
@[simp] theorem serLoaded_linkReady (cmd : Byte) (p : Payload) (s : State) : (serLoaded cmd p s).linkReady = s.linkReady := rfl
@[simp] theorem serLoaded_image (cmd : Byte) (p : Payload) (s : State) : (serLoaded cmd p s).image = s.image := rfl
@[simp] theorem serLoaded_regRdata (cmd : Byte) (p : Payload) (s : State) : (serLoaded cmd p s).regRdata = s.regRdata := rfl
@[simp] theorem serLoaded_inputs (cmd : Byte) (p : Payload) (s : State) : (serLoaded cmd p s).inputs = s.inputs := rfl

/-! The entry of Complete (R175, R177). -/

@[simp] theorem complete_state (s : State) : (complete s).state = .complete := rfl
@[simp] theorem complete_errKind (s : State) : (complete s).errKind = s.errKind := rfl
@[simp] theorem complete_failState (s : State) : (complete s).failState = s.failState := rfl
@[simp] theorem complete_released (s : State) : (complete s).released = true := rfl
@[simp] theorem complete_imageLen (s : State) : (complete s).imageLen = s.imageLen := rfl
@[simp] theorem complete_blockCount (s : State) : (complete s).blockCount = s.blockCount := rfl
@[simp] theorem complete_allocSize (s : State) : (complete s).allocSize = s.allocSize := rfl
@[simp] theorem complete_blockIndex (s : State) : (complete s).blockIndex = s.blockIndex := rfl
@[simp] theorem complete_errCode (s : State) : (complete s).errCode = s.errCode := rfl
@[simp] theorem complete_errBlock (s : State) : (complete s).errBlock = s.errBlock := rfl
@[simp] theorem complete_framesSent (s : State) : (complete s).framesSent = s.framesSent := rfl
@[simp] theorem complete_lastFcs (s : State) : (complete s).lastFcs = s.lastFcs := rfl
@[simp] theorem complete_crc (s : State) : (complete s).crc = s.crc := rfl
@[simp] theorem complete_crcCnt (s : State) : (complete s).crcCnt = s.crcCnt := rfl
@[simp] theorem complete_serPhase (s : State) : (complete s).serPhase = s.serPhase := rfl
@[simp] theorem complete_serCmd (s : State) : (complete s).serCmd = s.serCmd := rfl
@[simp] theorem complete_serLen (s : State) : (complete s).serLen = s.serLen := rfl
@[simp] theorem complete_serPos (s : State) : (complete s).serPos = s.serPos := rfl
@[simp] theorem complete_serBase (s : State) : (complete s).serBase = s.serBase := rfl
@[simp] theorem complete_serSrc (s : State) : (complete s).serSrc = s.serSrc := rfl
@[simp] theorem complete_serHeld (s : State) : (complete s).serHeld = s.serHeld := rfl
@[simp] theorem complete_ackWait (s : State) : (complete s).ackWait = s.ackWait := rfl
@[simp] theorem complete_tx (s : State) : (complete s).tx = s.tx := rfl
@[simp] theorem complete_txPast (s : State) : (complete s).txPast = s.txPast := rfl
@[simp] theorem complete_linkReady (s : State) : (complete s).linkReady = s.linkReady := rfl
@[simp] theorem complete_image (s : State) : (complete s).image = s.image := rfl
@[simp] theorem complete_regRdata (s : State) : (complete s).regRdata = s.regRdata := rfl
@[simp] theorem complete_inputs (s : State) : (complete s).inputs = s.inputs := rfl

/-! The error entry (R243). -/

@[simp] theorem raise_state (e : UploadError) (s : State) : (raise e s).state = .failed := rfl
@[simp] theorem raise_errKind (e : UploadError) (s : State) : (raise e s).errKind = e.kind := rfl
@[simp] theorem raise_failState (e : UploadError) (s : State) : (raise e s).failState = s.state := rfl
@[simp] theorem raise_released (e : UploadError) (s : State) : (raise e s).released = true := rfl
@[simp] theorem raise_imageLen (e : UploadError) (s : State) : (raise e s).imageLen = s.imageLen := rfl
@[simp] theorem raise_blockCount (e : UploadError) (s : State) : (raise e s).blockCount = s.blockCount := rfl
@[simp] theorem raise_allocSize (e : UploadError) (s : State) : (raise e s).allocSize = s.allocSize := rfl
@[simp] theorem raise_blockIndex (e : UploadError) (s : State) : (raise e s).blockIndex = s.blockIndex := rfl
@[simp] theorem raise_errCode (e : UploadError) (s : State) : (raise e s).errCode = e.code := rfl
@[simp] theorem raise_errBlock (e : UploadError) (s : State) : (raise e s).errBlock = e.block := rfl
@[simp] theorem raise_framesSent (e : UploadError) (s : State) : (raise e s).framesSent = s.framesSent := rfl
@[simp] theorem raise_lastFcs (e : UploadError) (s : State) : (raise e s).lastFcs = s.lastFcs := rfl
@[simp] theorem raise_crc (e : UploadError) (s : State) : (raise e s).crc = s.crc := rfl
@[simp] theorem raise_crcCnt (e : UploadError) (s : State) : (raise e s).crcCnt = s.crcCnt := rfl
@[simp] theorem raise_serPhase (e : UploadError) (s : State) : (raise e s).serPhase = s.serPhase := rfl
@[simp] theorem raise_serCmd (e : UploadError) (s : State) : (raise e s).serCmd = s.serCmd := rfl
@[simp] theorem raise_serLen (e : UploadError) (s : State) : (raise e s).serLen = s.serLen := rfl
@[simp] theorem raise_serPos (e : UploadError) (s : State) : (raise e s).serPos = s.serPos := rfl
@[simp] theorem raise_serBase (e : UploadError) (s : State) : (raise e s).serBase = s.serBase := rfl
@[simp] theorem raise_serSrc (e : UploadError) (s : State) : (raise e s).serSrc = s.serSrc := rfl
@[simp] theorem raise_serHeld (e : UploadError) (s : State) : (raise e s).serHeld = s.serHeld := rfl
@[simp] theorem raise_ackWait (e : UploadError) (s : State) : (raise e s).ackWait = s.ackWait := rfl
@[simp] theorem raise_tx (e : UploadError) (s : State) : (raise e s).tx = s.tx := rfl
@[simp] theorem raise_txPast (e : UploadError) (s : State) : (raise e s).txPast = s.txPast := rfl
@[simp] theorem raise_linkReady (e : UploadError) (s : State) : (raise e s).linkReady = s.linkReady := rfl
@[simp] theorem raise_image (e : UploadError) (s : State) : (raise e s).image = s.image := rfl
@[simp] theorem raise_regRdata (e : UploadError) (s : State) : (raise e s).regRdata = s.regRdata := rfl
@[simp] theorem raise_inputs (e : UploadError) (s : State) : (raise e s).inputs = s.inputs := rfl

/-! Taking the next move. -/

@[simp] theorem takeInput_state (rest : List Input) (s : State) : (takeInput rest s).state = s.state := rfl
@[simp] theorem takeInput_errKind (rest : List Input) (s : State) : (takeInput rest s).errKind = s.errKind := rfl
@[simp] theorem takeInput_failState (rest : List Input) (s : State) : (takeInput rest s).failState = s.failState := rfl
@[simp] theorem takeInput_released (rest : List Input) (s : State) : (takeInput rest s).released = s.released := rfl
@[simp] theorem takeInput_imageLen (rest : List Input) (s : State) : (takeInput rest s).imageLen = s.imageLen := rfl
@[simp] theorem takeInput_blockCount (rest : List Input) (s : State) : (takeInput rest s).blockCount = s.blockCount := rfl
@[simp] theorem takeInput_allocSize (rest : List Input) (s : State) : (takeInput rest s).allocSize = s.allocSize := rfl
@[simp] theorem takeInput_blockIndex (rest : List Input) (s : State) : (takeInput rest s).blockIndex = s.blockIndex := rfl
@[simp] theorem takeInput_errCode (rest : List Input) (s : State) : (takeInput rest s).errCode = s.errCode := rfl
@[simp] theorem takeInput_errBlock (rest : List Input) (s : State) : (takeInput rest s).errBlock = s.errBlock := rfl
@[simp] theorem takeInput_framesSent (rest : List Input) (s : State) : (takeInput rest s).framesSent = s.framesSent := rfl
@[simp] theorem takeInput_lastFcs (rest : List Input) (s : State) : (takeInput rest s).lastFcs = s.lastFcs := rfl
@[simp] theorem takeInput_crc (rest : List Input) (s : State) : (takeInput rest s).crc = s.crc := rfl
@[simp] theorem takeInput_crcCnt (rest : List Input) (s : State) : (takeInput rest s).crcCnt = s.crcCnt := rfl
@[simp] theorem takeInput_serPhase (rest : List Input) (s : State) : (takeInput rest s).serPhase = s.serPhase := rfl
@[simp] theorem takeInput_serCmd (rest : List Input) (s : State) : (takeInput rest s).serCmd = s.serCmd := rfl
@[simp] theorem takeInput_serLen (rest : List Input) (s : State) : (takeInput rest s).serLen = s.serLen := rfl
@[simp] theorem takeInput_serPos (rest : List Input) (s : State) : (takeInput rest s).serPos = s.serPos := rfl
@[simp] theorem takeInput_serBase (rest : List Input) (s : State) : (takeInput rest s).serBase = s.serBase := rfl
@[simp] theorem takeInput_serSrc (rest : List Input) (s : State) : (takeInput rest s).serSrc = s.serSrc := rfl
@[simp] theorem takeInput_serHeld (rest : List Input) (s : State) : (takeInput rest s).serHeld = s.serHeld := rfl
@[simp] theorem takeInput_ackWait (rest : List Input) (s : State) : (takeInput rest s).ackWait = s.ackWait := rfl
@[simp] theorem takeInput_tx (rest : List Input) (s : State) : (takeInput rest s).tx = s.tx := rfl
@[simp] theorem takeInput_txPast (rest : List Input) (s : State) : (takeInput rest s).txPast = s.txPast := rfl
@[simp] theorem takeInput_linkReady (rest : List Input) (s : State) : (takeInput rest s).linkReady = s.linkReady := rfl
@[simp] theorem takeInput_image (rest : List Input) (s : State) : (takeInput rest s).image = s.image := rfl
@[simp] theorem takeInput_regRdata (rest : List Input) (s : State) : (takeInput rest s).regRdata = none := rfl
@[simp] theorem takeInput_inputs (rest : List Input) (s : State) : (takeInput rest s).inputs = rest := rfl

/-! RESET (R270). -/

@[simp] theorem resetFrom_state (s : State) : (resetFrom s).state = .idle := rfl
@[simp] theorem resetFrom_errKind (s : State) : (resetFrom s).errKind = .none := rfl
@[simp] theorem resetFrom_failState (s : State) : (resetFrom s).failState = .idle := rfl
@[simp] theorem resetFrom_released (s : State) : (resetFrom s).released = false := rfl
@[simp] theorem resetFrom_imageLen (s : State) : (resetFrom s).imageLen = 0#32 := rfl
@[simp] theorem resetFrom_blockCount (s : State) : (resetFrom s).blockCount = 0#24 := rfl
@[simp] theorem resetFrom_allocSize (s : State) : (resetFrom s).allocSize = 0#32 := rfl
@[simp] theorem resetFrom_blockIndex (s : State) : (resetFrom s).blockIndex = 0#24 := rfl
@[simp] theorem resetFrom_errCode (s : State) : (resetFrom s).errCode = 0#8 := rfl
@[simp] theorem resetFrom_errBlock (s : State) : (resetFrom s).errBlock = 0#24 := rfl
@[simp] theorem resetFrom_framesSent (s : State) : (resetFrom s).framesSent = 0#32 := rfl
@[simp] theorem resetFrom_lastFcs (s : State) : (resetFrom s).lastFcs = 0#8 := rfl
@[simp] theorem resetFrom_crc (s : State) : (resetFrom s).crc = 0#8 := rfl
@[simp] theorem resetFrom_crcCnt (s : State) : (resetFrom s).crcCnt = 0#4 := rfl
@[simp] theorem resetFrom_serPhase (s : State) : (resetFrom s).serPhase = .idle := rfl
@[simp] theorem resetFrom_serCmd (s : State) : (resetFrom s).serCmd = 0#8 := rfl
@[simp] theorem resetFrom_serLen (s : State) : (resetFrom s).serLen = 0#16 := rfl
@[simp] theorem resetFrom_serPos (s : State) : (resetFrom s).serPos = 0#16 := rfl
@[simp] theorem resetFrom_serBase (s : State) : (resetFrom s).serBase = 0#32 := rfl
@[simp] theorem resetFrom_serSrc (s : State) : (resetFrom s).serSrc = .alloc := rfl
@[simp] theorem resetFrom_serHeld (s : State) : (resetFrom s).serHeld = none := rfl
@[simp] theorem resetFrom_ackWait (s : State) : (resetFrom s).ackWait = false := rfl
@[simp] theorem resetFrom_tx (s : State) : (resetFrom s).tx = [] := rfl
@[simp] theorem resetFrom_txPast (s : State) : (resetFrom s).txPast = s.txPast ++ s.tx := rfl
@[simp] theorem resetFrom_linkReady (s : State) : (resetFrom s).linkReady = s.linkReady := rfl
@[simp] theorem resetFrom_image (s : State) : (resetFrom s).image = s.image := rfl
@[simp] theorem resetFrom_regRdata (s : State) : (resetFrom s).regRdata = none := rfl
@[simp] theorem resetFrom_inputs (s : State) : (resetFrom s).inputs = s.inputs := rfl

end Sys2Proof.Machine
end

