-- ==== Sys2Proof/Laws/Ops.lean ====
section
/-! SUPPORT. What each shared operation can do, said once: proofs cite these and do not unfold the operation. -/

namespace Sys2Proof.Machine

/-! Sequencing. -/

@[simp] theorem andThen_next (s : State) (f : State → Result) : andThen (.next s) f = f s := rfl

@[simp] theorem andThen_fault (e : Fault) (f : State → Result) : andThen (.fault e) f = .fault e := rfl

@[simp] theorem andThen_refused (e : Refusal) (f : State → Result) : andThen (.refused e) f = .refused e := rfl

/-- A sequence answers a next state when both parts do. -/
theorem andThen_eq_next {r : Result} {f : State → Result} {t : State} :
    andThen r f = .next t ↔ ∃ s, r = .next s ∧ f s = .next t := by
  cases r <;> simp

/-! Frames and payloads. -/

/-- The block's payloads are within BUILD_FRAME's limit (R132). -/
theorem payload_size_le (s : State) (p : Payload) : p.size s ≤ 512 := by
  cases p with
  | alloc => simp [Payload.size]
  | block i => simp [Payload.size, blockLen]

@[simp] theorem payload_bytes_length (s : State) (p : Payload) : (p.bytes s).length = p.size s := by
  cases p with
  | alloc => rfl
  | block i => simp [Payload.bytes, Payload.size, blockSlice]

theorem payload_size_pos {s : State} {p : Payload} (h : p.readable s = true) : 0 < p.size s := by
  cases p with
  | alloc => simp [Payload.size]
  | block i =>
    simp [Payload.readable] at h
    simp [Payload.size, blockLen]
    omega

/-- BUILD_FRAME of a payload the block sends (R132). -/
theorem buildFrame_payload (cmd : Byte) (p : Payload) (s : State) :
    buildFrame cmd (p.bytes s) = some (frameBytes cmd (p.bytes s)) := by
  have h := payload_size_le s p
  rw [buildFrame, if_pos]
  simp only [payload_bytes_length, Config.maxPayload]
  omega

@[simp] theorem frameBody_length (cmd : Byte) (payload : List Byte) :
    (frameBody cmd payload).length = payload.length + 3 := by
  simp [frameBody, le16]

@[simp] theorem frameBytes_length (cmd : Byte) (payload : List Byte) :
    (frameBytes cmd payload).length = payload.length + 6 := by
  simp [frameBytes]

/-- LAST_FCS's byte of a frame is its checksum (R131, R164). -/
theorem byteAt_frame_fcs (cmd : Byte) (payload : List Byte) :
    byteAt (frameBytes cmd payload) ((frameBytes cmd payload).length - 2) = checksum (frameBody cmd payload) := by
  simp [byteAt, frameBytes, List.getD]

/-- The same, with the position in simp normal form. -/
@[simp] theorem byteAt_frame_fcs' (cmd : Byte) (payload : List Byte) :
    byteAt (frameBytes cmd payload) (payload.length + 4) = checksum (frameBody cmd payload) := by
  rw [← byteAt_frame_fcs, frameBytes_length, show payload.length + 6 - 2 = payload.length + 4 by omega]

/-! EMIT_FRAME. -/

/-- EMIT_FRAME at the transaction level answers the state with the whole frame emitted, exactly when no frame is in
emission and the payload has its bytes (R164). -/
theorem emitFrame_transaction_next {cmd : Byte} {p : Payload} {s t : State} :
    emitFrame .transaction cmd p s = .next t ↔
      s.serPhase = .idle ∧ p.readable s = true ∧
      t = awaitAck (frameSent cmd p (frameBytes cmd (p.bytes s)) (txEmit (frameBytes cmd (p.bytes s)) s)) := by
  by_cases h₁ : s.serPhase = .idle <;> by_cases h₂ : p.readable s <;>
    simp [emitFrame, h₁, h₂, buildFrame_payload, eq_comm]

/-- EMIT_FRAME at the byte level loads the serializer, under the same conditions (R210). -/
theorem emitFrame_cycle_next {cmd : Byte} {p : Payload} {s t : State} :
    emitFrame .cycle cmd p s = .next t ↔
      s.serPhase = .idle ∧ p.readable s = true ∧ t = serLoaded cmd p s := by
  by_cases h₁ : s.serPhase = .idle <;> by_cases h₂ : p.readable s <;> simp [emitFrame, h₁, h₂, eq_comm]

/-- EMIT_FRAME is never refused: the block never asks for a payload that is too long (R132). -/
theorem emitFrame_ne_refused (lv : Level) (cmd : Byte) (p : Payload) (s : State) (e : Refusal) :
    emitFrame lv cmd p s ≠ .refused e := by
  by_cases h₁ : s.serPhase = .idle <;> by_cases h₂ : p.readable s <;> cases lv <;>
    simp [emitFrame, h₁, h₂, buildFrame_payload]

/-- EMIT_FRAME faults only while a frame is in emission or where the payload's bytes lie beyond the image. -/
theorem emitFrame_fault {lv : Level} {cmd : Byte} {p : Payload} {s : State} {e : Fault}
    (h : emitFrame lv cmd p s = .fault e) : s.serPhase ≠ .idle ∨ p.readable s = false := by
  by_cases h₁ : s.serPhase = .idle <;> by_cases h₂ : p.readable s <;> cases lv <;>
    simp [emitFrame, h₁, h₂, buildFrame_payload] at h ⊢

/-! The checksum unit (R203). -/

/-- What one cycle of the checksum unit can do. -/
theorem crcCycle_next {clr : Bool} {load : Option Byte} {s t : State} (h : crcCycle clr load s = .next t) :
    (clr = true ∧ t = { s with crc := crcInit, crcCnt := 0#4 }) ∨
    (clr = false ∧ ∃ b, load = some b ∧ s.crcBusy = false ∧ t = { s with crc := s.crc ^^^ b, crcCnt := 8#4 }) ∨
    (clr = false ∧ load = none ∧ s.crcBusy = true ∧ t = { s with crc := crcBit s.crc, crcCnt := s.crcCnt - 1#4 }) ∨
    (clr = false ∧ load = none ∧ s.crcBusy = false ∧ t = s) := by
  cases clr <;> cases load <;> cases hb : s.crcBusy <;> simp [crcCycle, hb, eq_comm] at h ⊢ <;> exact h

/-! The transitions. -/

/-- What START can do (R170, R172, R173). -/
theorem startSession_next {lv : Level} {s t : State} (h : startSession lv s = .next t) :
    (s.state ≠ .idle ∧ t = s) ∨
    (s.state = .idle ∧ s.imageLen.toNat ≤ Config.maxImageLen ∧ s.linkReady = false ∧ t = raise .transportOpen s) ∨
    (s.state = .idle ∧ s.imageLen.toNat ≤ Config.maxImageLen ∧ s.linkReady = true ∧
      ∃ u, emitAllocate lv (latch s) = .next u ∧ t = moveTo .allocateSent u) := by
  cases hs : s.state <;> simp only [startSession, hs] at h
  case idle =>
    by_cases hl : Config.maxImageLen < s.imageLen.toNat
    · simp [hl] at h
    · cases hr : s.linkReady <;> simp [hl, hr, andThen_eq_next] at h
      · exact .inr (.inl ⟨rfl, by omega, rfl, h.symm⟩)
      · obtain ⟨u, hu, ht⟩ := h
        exact .inr (.inr ⟨rfl, by omega, rfl, u, hu, ht.symm⟩)
  all_goals exact .inl ⟨by simp, by simpa using h.symm⟩

/-- What a success acknowledgment of an open window can do (R174 to R177). -/
theorem onSuccess_next {lv : Level} {s t : State} (h : onSuccess lv s = .next t) :
    (s.state.inSession = false ∧ t = s) ∨
    (s.state = .allocateSent ∧ s.blockCount = 0#24 ∧ t = complete s) ∨
    (s.state = .allocateSent ∧ s.blockCount ≠ 0#24 ∧
      ∃ u, emitBlock lv 0 (atBlock 0#24 s) = .next u ∧ t = moveTo .uploading u) ∨
    (s.state = .uploading ∧ s.blockIndex.toNat + 1 < s.blockCount.toNat ∧
      emitBlock lv (s.blockIndex.toNat + 1) (atBlock (s.blockIndex + 1#24) s) = .next t) ∨
    (s.state = .uploading ∧ s.blockIndex.toNat + 1 = s.blockCount.toNat ∧ t = complete s) := by
  cases hs : s.state <;> simp only [onSuccess, hs] at h
  case allocateSent =>
    by_cases hb : s.blockCount = 0#24
    · rw [if_pos hb] at h
      exact .inr (.inl ⟨rfl, hb, by simpa using h.symm⟩)
    · rw [if_neg hb, andThen_eq_next] at h
      obtain ⟨u, hu, ht⟩ := h
      exact .inr (.inr (.inl ⟨rfl, hb, u, hu, by simpa using ht.symm⟩))
  case uploading =>
    by_cases h₁ : s.blockIndex.toNat + 1 < s.blockCount.toNat
    · rw [if_pos h₁] at h
      exact .inr (.inr (.inr (.inl ⟨rfl, h₁, h⟩)))
    · by_cases h₂ : s.blockIndex.toNat + 1 = s.blockCount.toNat
      · rw [if_neg h₁, if_pos h₂] at h
        exact .inr (.inr (.inr (.inr ⟨rfl, h₂, by simpa using h.symm⟩)))
      · rw [if_neg h₁, if_neg h₂] at h
        simp at h
  all_goals exact .inl ⟨rfl, by simpa using h.symm⟩

/-- What an error acknowledgment of an open window does (R181). -/
theorem onErrorCode_next {c : Byte} {s t : State} (h : onErrorCode c s = .next t) :
    (s.state.inSession = false ∧ t = s) ∨
    (s.state = .allocateSent ∧ t = raise (.allocation c) s) ∨
    (s.state = .uploading ∧ t = raise (.transfer s.blockIndex c) s) := by
  cases hs : s.state <;> simp [onErrorCode, hs, eq_comm, UploadState.inSession] at h ⊢ <;> exact h

/-- What a timeout of an open window does (R180). -/
theorem onTimeout_next {s t : State} (h : onTimeout s = .next t) :
    (s.state.inSession = false ∧ t = s) ∨
    (s.state = .allocateSent ∧ t = raise (.ackTimeout 0#24) s) ∨
    (s.state = .uploading ∧ t = raise (.ackTimeout s.blockIndex) s) := by
  cases hs : s.state <;> simp [onTimeout, hs, eq_comm, UploadState.inSession] at h ⊢ <;> exact h

/-- What the event of a window does: it closes the window, and its own byte alone decides (R178, R179). -/
theorem takeEvent_next {lv : Level} {r : AckResponse} {s t : State} (h : takeEvent lv r s = .next t) :
    (r = .timeoutError ∧ onTimeout (closeWindow s) = .next t) ∨
    (r = .status Config.ackSuccess ∧ onSuccess lv (closeWindow s) = .next t) ∨
    (∃ c, r = .status c ∧ c ≠ Config.ackSuccess ∧ onErrorCode c (closeWindow s) = .next t) := by
  cases r with
  | timeoutError => exact .inl ⟨rfl, h⟩
  | status b =>
    by_cases hb : b = Config.ackSuccess
    · subst hb
      exact .inr (.inl ⟨rfl, by simpa [takeEvent] using h⟩)
    · exact .inr (.inr ⟨b, rfl, hb, by simpa [takeEvent, hb] using h⟩)

/-- What a link event does at the transaction level (R184). -/
theorem linkEvent_next {r : AckResponse} {s t : State} (h : linkEvent r s = .next t) :
    (s.windowOpen = false ∧ t = s) ∨ (s.windowOpen = true ∧ takeEvent .transaction r s = .next t) := by
  cases hw : s.windowOpen <;> simp [linkEvent, hw, eq_comm] at h ⊢ <;> exact h

/-- What a host load of IMAGE_MEM does (R62). -/
theorem hostLoad_next {addr : Word} {bytes : List Byte} {s t : State} (h : hostLoad addr bytes s = .next t) :
    s.state.inSession = false ∧ addr.toNat + bytes.length ≤ Config.imageSpace ∧
      t = { s with image := memLoad s.image addr.toNat bytes } := by
  unfold hostLoad at h
  split_ifs at h with h₁ h₂
  exact ⟨by simpa using h₁, by omega, by simpa using h.symm⟩

end Sys2Proof.Machine
end

