-- ==== Sys2Proof/Laws/Emit.lean ====
section
/-! SUPPORT. The frames the block sends, as the closed forms `Safety.withFrame` that claims use. -/

namespace Sys2Proof.Machine

open Sys2Proof.Safety

/-- The allocation frame at the transaction level (R133, R164). -/
theorem emitAllocate_eq {s : State} (h : s.serPhase = .idle) :
    emitAllocate .transaction s = .next (withFrame Config.cmdAllocateMemory (le32 s.allocSize) .alloc 0 s) := by
  rw [emitAllocate, emitFrame_transaction_next.2 ⟨h, rfl, rfl⟩]
  simp only [awaitAck, frameSent, byteAt_frame_fcs]
  rfl

/-- The frame of block `i` at the transaction level (R134, R135, R164). -/
theorem emitBlock_eq {s : State} {i : Nat} (h : s.serPhase = .idle) (hi : i * 512 < s.imageLen.toNat) :
    emitBlock .transaction i s =
      .next (withFrame (blockCmd s.blockCount.toNat i) (blockSlice s i) .image (i * 512) s) := by
  have hr : (Payload.block i).readable s = true := by simpa [Payload.readable] using hi
  rw [emitBlock, emitFrame_transaction_next.2 ⟨h, hr, rfl⟩]
  simp only [awaitAck, frameSent, byteAt_frame_fcs, withFrame, ← payload_bytes_length]
  rfl

/-- A block of the image begins below its length (R166). -/
theorem block_begins {len i : Nat} (h : i < blockCountOf len) : i * 512 < len := by
  rw [blockCountOf] at h
  omega

end Sys2Proof.Machine
end

