-- ==== Sys2Proof/Laws/Encode.lean ====
section
/-! SUPPORT. The fields and bits of the encoded words: what the encoder writes into a field, the decoder reads from
it. -/

namespace Sys2Proof

/-! FRAME (R81). -/

theorem frameHeader_bit (cmd : Byte) (len : BitVec 16) (k : Nat) :
    (frameHeader cmd len).getLsbD k =
      if k < 8 then Config.startMarker.getLsbD k
      else if k - 8 < 8 then cmd.getLsbD (k - 8) else len.getLsbD (k - 8 - 8) := by
  unfold frameHeader
  erw [BitVec.getLsbD_append, BitVec.getLsbD_append]

@[simp] theorem frameHeader_start (cmd : Byte) (len : BitVec 16) :
    (frameHeader cmd len).extractLsb' 0 8 = Config.startMarker := by
  apply BitVec.eq_of_getLsbD_eq
  intro k hk
  rw [BitVec.getLsbD_extractLsb', frameHeader_bit]
  simp [hk]

@[simp] theorem frameHeader_cmd (cmd : Byte) (len : BitVec 16) : (frameHeader cmd len).extractLsb' 8 8 = cmd := by
  apply BitVec.eq_of_getLsbD_eq
  intro k hk
  rw [BitVec.getLsbD_extractLsb', frameHeader_bit]
  simp [hk]

@[simp] theorem frameHeader_len (cmd : Byte) (len : BitVec 16) : (frameHeader cmd len).extractLsb' 16 16 = len := by
  apply BitVec.eq_of_getLsbD_eq
  intro k hk
  rw [BitVec.getLsbD_extractLsb', frameHeader_bit, if_neg (by omega), if_neg (by omega),
    show 16 + k - 8 - 8 = k by omega]
  simp [hk]

/-! RXEV (R88). -/

theorem rxevWord_bit (v : BitVec 1) (status : Byte) (k : Nat) :
    (rxevWord v status).getLsbD k = if k < 8 then status.getLsbD k else v.getLsbD (k - 8) := by
  unfold rxevWord
  erw [BitVec.getLsbD_append]

@[simp] theorem rxevWord_v (v : BitVec 1) (status : Byte) : (rxevWord v status).extractLsb' 8 1 = v := by
  apply BitVec.eq_of_getLsbD_eq
  intro k hk
  rw [BitVec.getLsbD_extractLsb', rxevWord_bit, if_neg (by omega), show 8 + k - 8 = k by omega]
  simp [hk]

@[simp] theorem rxevWord_status (v : BitVec 1) (status : Byte) :
    (rxevWord v status).extractLsb' 0 8 = status := by
  apply BitVec.eq_of_getLsbD_eq
  intro k hk
  rw [BitVec.getLsbD_extractLsb', rxevWord_bit]
  simp [hk]

/-! HOSTOP (R96). -/

theorem hostopWord_bit (w : BitVec 1) (off : BitVec 6) (data : Word) (k : Nat) :
    (hostopWord w off data).getLsbD k =
      if k < 32 then data.getLsbD k else if k - 32 < 6 then off.getLsbD (k - 32) else w.getLsbD (k - 32 - 6) := by
  unfold hostopWord
  erw [BitVec.getLsbD_append, BitVec.getLsbD_append]

@[simp] theorem hostopWord_w (w : BitVec 1) (off : BitVec 6) (data : Word) :
    (hostopWord w off data).extractLsb' 38 1 = w := by
  apply BitVec.eq_of_getLsbD_eq
  intro k hk
  rw [BitVec.getLsbD_extractLsb', hostopWord_bit, if_neg (by omega), if_neg (by omega),
    show 38 + k - 32 - 6 = k by omega]
  simp [hk]

@[simp] theorem hostopWord_off (w : BitVec 1) (off : BitVec 6) (data : Word) :
    (hostopWord w off data).extractLsb' 32 6 = off := by
  apply BitVec.eq_of_getLsbD_eq
  intro k hk
  rw [BitVec.getLsbD_extractLsb', hostopWord_bit, if_neg (by omega), if_pos (by omega),
    show 32 + k - 32 = k by omega]
  simp [hk]

@[simp] theorem hostopWord_data (w : BitVec 1) (off : BitVec 6) (data : Word) :
    (hostopWord w off data).extractLsb' 0 32 = data := by
  apply BitVec.eq_of_getLsbD_eq
  intro k hk
  rw [BitVec.getLsbD_extractLsb', hostopWord_bit]
  simp [hk]

/-- DATA of a CTRL write: bit 0 is START, bits 31:1 are ignored (R23, R97). -/
theorem ctrlData_bit (ignored : BitVec 31) (start : BitVec 1) (k : Nat) :
    BitVec.getLsbD (ignored ++ start : BitVec 32) k =
      if k < 1 then start.getLsbD k else ignored.getLsbD (k - 1) := by
  erw [BitVec.getLsbD_append]

@[simp] theorem ctrlData_start (ignored : BitVec 31) (start : BitVec 1) :
    BitVec.extractLsb' 0 1 (ignored ++ start : BitVec 32) = start := by
  apply BitVec.eq_of_getLsbD_eq
  intro k hk
  rw [BitVec.getLsbD_extractLsb', ctrlData_bit]
  simp [hk]

@[simp] theorem ctrlData_ignored (ignored : BitVec 31) (start : BitVec 1) :
    BitVec.extractLsb' 1 31 (ignored ++ start : BitVec 32) = ignored := by
  apply BitVec.eq_of_getLsbD_eq
  intro k hk
  rw [BitVec.getLsbD_extractLsb', ctrlData_bit, if_neg (by omega), show 1 + k - 1 = k by omega]
  simp [hk]

end Sys2Proof
end

