-- ==== Sys2Proof/Laws/Exec.lean ====
section
/-! SUPPORT. What each operation, each move and each part of a clock cycle can do, said once: the invariants of claims
follow from these by cases. -/

namespace Sys2Proof.Machine

/-! The frames as operations (R133 to R135). -/

theorem frameAllocateMemory_next {s t : State} (h : exec .frameAllocateMemory s = .next t) :
    (s.allocationDue = false ∧ t = s) ∨ (s.allocationDue = true ∧ emitAllocate .transaction s = .next t) := by
  cases hd : s.allocationDue <;> simp [exec, execFrameAllocateMemory, hd, eq_comm] at h ⊢ <;> exact h

theorem frameBinaryBlock_next {s t : State} (h : exec .frameBinaryBlock s = .next t) :
    (s.blockDue = false ∧ t = s) ∨
    (s.blockDue = true ∧ emitBlock .transaction s.blockIndex.toNat s = .next t) := by
  cases hd : s.blockDue <;> simp [exec, execFrameBinaryBlock, hd, eq_comm] at h ⊢ <;> exact h

theorem frameBinaryBlockLast_next {len : BitVec 16} {s t : State} (h : exec (.frameBinaryBlockLast len) s = .next t) :
    t = s ∨ (s.lastBlockDue = true ∧ len.toNat = blockLen s.imageLen.toNat s.blockIndex.toNat ∧
      emitBlock .transaction s.blockIndex.toNat s = .next t) := by
  simp only [exec, execFrameBinaryBlockLast] at h
  split at h
  · rename_i hd
    simp only [Bool.and_eq_true, beq_iff_eq] at hd
    exact .inr ⟨hd.1, hd.2, h⟩
  · exact .inl (by simpa using h.symm)

/-- What a control point says of the state. -/
theorem allocationDue_iff {s : State} :
    s.allocationDue = true ↔ s.state = .idle ∧ s.ackWait = false ∧ s.serPhase = .idle := by
  simp only [State.allocationDue, State.noFrameInFlight, Bool.and_eq_true, Bool.not_eq_true', beq_iff_eq]
  exact and_comm

theorem blockDue_iff {s : State} :
    s.blockDue = true ↔ s.state.inSession = true ∧ s.blockIndex.toNat + 1 < s.blockCount.toNat ∧
      s.ackWait = false ∧ s.serPhase = .idle := by
  simp only [State.blockDue, State.noFrameInFlight, Bool.and_eq_true, Bool.not_eq_true', beq_iff_eq, decide_eq_true_eq]
  exact ⟨fun h => ⟨h.1.2, h.2, h.1.1⟩, fun h => ⟨⟨h.2.2, h.1⟩, h.2.1⟩⟩

theorem lastBlockDue_iff {s : State} :
    s.lastBlockDue = true ↔ s.state.inSession = true ∧ s.blockIndex.toNat + 1 = s.blockCount.toNat ∧
      s.ackWait = false ∧ s.serPhase = .idle := by
  simp only [State.lastBlockDue, State.noFrameInFlight, Bool.and_eq_true, Bool.not_eq_true', beq_iff_eq,
    decide_eq_true_eq]
  exact ⟨fun h => ⟨h.1.2, h.2, h.1.1⟩, fun h => ⟨⟨h.2.2, h.1⟩, h.2.1⟩⟩

/-- An open window: a session is under way and no frame is in emission (R178, R218). -/
theorem windowOpen_iff {s : State} : s.windowOpen = true ↔ s.state.inSession = true ∧ s.serPhase = .idle := by
  simp [State.windowOpen]

theorem inSession_iff {u : UploadState} : u.inSession = true ↔ u = .allocateSent ∨ u = .uploading := by
  cases u <;> simp [UploadState.inSession]

/-! The host's writes and reads (R185, R186). -/

theorem hostWriteImageLen_next {len : Word} {s t : State} (h : exec (.hostWriteImageLen len) s = .next t) :
    (s.state = .idle ∧ t = { s with imageLen := len }) ∨ (s.state ≠ .idle ∧ t = s) := by
  cases hs : s.state <;> simp [exec, execHostWriteImageLen, hs, eq_comm] at h ⊢ <;> exact h

theorem hostRead_next {off : BitVec 6} {s t : State} (h : exec (.hostRead off) s = .next t) :
    offsetAligned off = true ∧ t = { s with regRdata := some (s.readReg off) } := by
  cases ho : offsetAligned off <;> simp [exec, execHostRead, ho, eq_comm] at h ⊢ <;> exact h

/-! The clock cycle (R200). -/

/-- What the register port does in a cycle: nothing, or the HOSTOP it stands for. -/
theorem hostCycle_next {p : PortsIn} {s t : State} (h : hostCycle p s = .next t) :
    (p.regReq = false ∧ t = s) ∨
    (p.regReq = true ∧ ∃ i, decode (.hostop (hostopOfAccess p.regWe p.regOff p.regWdata)) = .ok i ∧
      hostOpCycle i s = .next t) := by
  cases hr : p.regReq <;> simp only [hostCycle, hr] at h
  · exact .inl ⟨rfl, by simpa using h.symm⟩
  · cases hd : decode (.hostop (hostopOfAccess p.regWe p.regOff p.regWdata)) <;> simp [hd] at h ⊢
    exact h

/-- What the link sampling does in a cycle (R216, R217). -/
theorem linkCycle_next {p : PortsIn} {s t : State} (h : linkCycle p s = .next t) :
    t = s ∨ (s.ackWait = true ∧ ∃ r, p.linkEvent? = some r ∧ takeEvent .cycle r s = .next t) := by
  cases hp : p.linkEvent? <;> cases ha : s.ackWait <;> simp [linkCycle, hp, ha] at h ⊢
  · exact h.symm
  · exact h.symm
  · exact h.symm
  · exact .inr h

/-- What the image port's answer does (R207). -/
theorem imageAnswer_next {s t : State} (h : imageAnswer s = .next t) :
    s.imgAddr.toNat < s.imageLen.toNat ∧ t = { s with serHeld := some (imageByte s.image s.imgAddr.toNat) } := by
  by_cases ha : s.imgAddr.toNat < s.imageLen.toNat <;> simp [imageAnswer, ha, eq_comm] at h ⊢
  exact h

/-- What an edge without a transfer does: the image port may answer, then the checksum unit steps. -/
theorem serWait_next {ack : Bool} {s t : State} (h : serWait ack s = .next t) :
    ∃ u, ((s.imgReq && ack) = true ∧ imageAnswer s = .next u ∨ (s.imgReq && ack) = false ∧ u = s) ∧
      crcCycle false none u = .next t := by
  obtain ⟨u, hu, ht⟩ := andThen_eq_next.1 h
  refine ⟨u, ?_, ht⟩
  cases hq : s.imgReq && ack <;> simp [hq] at hu ⊢
  · exact hu.symm
  · exact hu

/-- What the serializer does in a cycle: a byte transfers, or the edge is one without a transfer (R206). -/
theorem serCycle_next {ready ack : Bool} {s t : State} (h : serCycle ready ack s = .next t) :
    (∃ b, s.txByte? = some b ∧ ready = true ∧ serTransfer b s = .next t) ∨
    ((s.txByte? = none ∨ ready = false) ∧ serWait ack s = .next t) := by
  cases hb : s.txByte? <;> cases ready <;> simp [serCycle, hb] at h ⊢ <;> exact h

/-- An idle serializer and checksum unit stay as they are. -/
theorem serCycle_idle {s : State} (ready ack : Bool) (hp : s.serPhase = .idle) (hc : s.crcCnt = 0#4) :
    serCycle ready ack s = .next s := by
  simp [serCycle, State.txByte?, hp, serWait, State.imgReq, crcCycle, State.crcBusy, hc]

/-- A cycle with neither `rst` nor a register access: the link sampling, then the serializer unless it was loaded. -/
theorem cycle_noAccess {p : PortsIn} {s : State} (hr : p.rst = false) (hq : p.regReq = false) :
    cycle p s = andThen (linkCycle p { s with linkReady := p.linkReady }) fun v =>
      if s.serPhase == .idle && v.serPhase != .idle then .next v else serCycle p.txReady p.imgAck v := by
  simp [cycle, hr, hostCycle, hq]

/-- The parts of a cycle in their order (R249). -/
theorem cycle_next {p : PortsIn} {s t : State} (h : cycle p s = .next t) :
    (p.rst = true ∧ t = resetFrom { s with linkReady := p.linkReady }) ∨
    (p.rst = false ∧ ∃ u v, hostCycle p { s with linkReady := p.linkReady } = .next u ∧ linkCycle p u = .next v ∧
      ((s.serPhase = .idle ∧ v.serPhase ≠ .idle) ∧ t = v ∨
        ¬ (s.serPhase = .idle ∧ v.serPhase ≠ .idle) ∧ serCycle p.txReady p.imgAck v = .next t)) := by
  cases hr : p.rst <;> simp only [cycle, hr] at h
  · obtain ⟨u, hu, h⟩ := andThen_eq_next.1 h
    obtain ⟨v, hv, h⟩ := andThen_eq_next.1 h
    refine .inr ⟨rfl, u, v, hu, hv, ?_⟩
    by_cases hc : s.serPhase = .idle ∧ v.serPhase ≠ .idle
    · exact .inl ⟨hc, by simpa [hc.1, hc.2] using h.symm⟩
    · refine .inr ⟨hc, ?_⟩
      rw [if_neg (by simpa using hc)] at h
      exact h
  · exact .inl ⟨rfl, by simpa using h.symm⟩

/-! Moves (R15, R80). -/

/-- An encoded word runs as what it decodes to. -/
theorem runWord_next {w : OpWord} {s t : State} (h : runWord w s = .next t) :
    ∃ i, decode w = .ok i ∧ exec i s = .next t := by
  cases hd : decode w <;> simp [runWord, hd] at h ⊢
  exact h

/-- An access runs as the word it has (R64). -/
theorem runAccess_next {write : Bool} {width offset : Nat} {data : Word} {s t : State}
    (h : runAccess write width offset data s = .next t) :
    ∃ w, accessWord write width offset data = some w ∧ runWord (.hostop w) s = .next t := by
  cases hw : accessWord write width offset data <;> simp [runAccess, hw] at h ⊢
  exact h

/-- A step: nothing with no move pending, or the next move. -/
theorem step_next {s t : State} (h : step s = .next t) :
    (s.inputs = [] ∧ t = s) ∨
    (∃ i rest, s.inputs = i :: rest ∧ runInput i (takeInput rest s) = .next t) := by
  cases hs : s.inputs <;> simp [step, runNext, hs, eq_comm] at h ⊢ <;> exact h

end Sys2Proof.Machine
end

