-- ==== Sys2Proof/Laws/PerInstr.lean ====
section
/-! SUPPORT. Per instruction: the encoded word of a well-formed operation agrees with its row of
spec/opcode_table.json, in its format and in every bit that the row's mask fixes. -/

namespace Sys2Proof.Laws

/-- The format names of spec/opcode_table.json (R80). -/
inductive Format where
  | frame
  | rxev
  | hostop
  | pin
deriving DecidableEq, Repr

/-- The format of a word. -/
def formatOf : OpWord → Format
  | .frame _ => .frame
  | .rxev _ => .rxev
  | .hostop _ => .hostop
  | .pin _ => .pin

/-- The bits of a word, widened to the widest format. -/
def valueOf : OpWord → BitVec 39
  | .frame header => header.setWidth 39
  | .rxev event => event.setWidth 39
  | .hostop op => op
  | .pin rst => rst.setWidth 39

/-- The row of an operation: format, mask, match. A row the table writes as a bit pattern fixes its literal bits. -/
def rowOf : Instr → Format × BitVec 39 × BitVec 39
  | .frameAllocateMemory => (.frame, 0xFFFFFFFF#39, 0x000401AA#39)
  | .frameBinaryBlock => (.frame, 0xFFFFFFFF#39, 0x020002AA#39)
  | .frameBinaryBlockLast _ => (.frame, 0x0000FFFF#39, 0x000003AA#39)
  | .ackSuccess => (.rxev, 0x1FF#39, 0x100#39)
  | .ackError _ => (.rxev, 0x100#39, 0x100#39)
  | .ackTimeout => (.rxev, 0x1FF#39, 0x000#39)
  | .hostStart _ => (.hostop, 0x7F00000001#39, 0x4000000001#39)
  | .hostCtrlNop _ => (.hostop, 0x7F00000001#39, 0x4000000000#39)
  | .hostWriteImageLen _ => (.hostop, 0x7F00000000#39, 0x4800000000#39)
  | .hostWriteIgnored _ _ => (.hostop, 0x4000000000#39, 0x4000000000#39)
  | .hostRead _ => (.hostop, 0x43FFFFFFFF#39, 0x0000000000#39)
  | .reset => (.pin, 0x1#39, 0x1#39)

namespace TableBits

/-- The encoded word has the row's format and the row's fixed bits. -/
def Statement (i : Instr) : Prop :=
  WellFormed i → formatOf (encode i) = (rowOf i).1 ∧ valueOf (encode i) &&& (rowOf i).2.1 = (rowOf i).2.2

theorem frameAllocateMemory : Statement .frameAllocateMemory := by intro _; decide

theorem frameBinaryBlock : Statement .frameBinaryBlock := by intro _; decide

theorem frameBinaryBlockLast (len : BitVec 16) : Statement (.frameBinaryBlockLast len) := by
  refine fun _ => ⟨rfl, ?_⟩
  apply BitVec.eq_of_getLsbD_eq
  intro k hk
  simp only [valueOf, encode, rowOf, BitVec.getLsbD_and, BitVec.getLsbD_setWidth, frameHeader_bit]
  interval_cases k <;> simp

theorem ackSuccess : Statement .ackSuccess := by intro _; decide

theorem ackError (code : Byte) : Statement (.ackError code) := by
  refine fun _ => ⟨rfl, ?_⟩
  apply BitVec.eq_of_getLsbD_eq
  intro k hk
  simp only [valueOf, encode, rowOf, BitVec.getLsbD_and, BitVec.getLsbD_setWidth, rxevWord_bit]
  interval_cases k <;> simp

theorem ackTimeout : Statement .ackTimeout := by intro _; decide

theorem hostStart (ignored : BitVec 31) : Statement (.hostStart ignored) := by
  refine fun _ => ⟨rfl, ?_⟩
  apply BitVec.eq_of_getLsbD_eq
  intro k hk
  simp only [valueOf, encode, rowOf, BitVec.getLsbD_and, hostopWord_bit, ctrlData_bit]
  interval_cases k <;> simp

theorem hostCtrlNop (ignored : BitVec 31) : Statement (.hostCtrlNop ignored) := by
  refine fun _ => ⟨rfl, ?_⟩
  apply BitVec.eq_of_getLsbD_eq
  intro k hk
  simp only [valueOf, encode, rowOf, BitVec.getLsbD_and, hostopWord_bit, ctrlData_bit]
  interval_cases k <;> simp

theorem hostWriteImageLen (len : Word) : Statement (.hostWriteImageLen len) := by
  refine fun _ => ⟨rfl, ?_⟩
  apply BitVec.eq_of_getLsbD_eq
  intro k hk
  simp only [valueOf, encode, rowOf, BitVec.getLsbD_and, hostopWord_bit]
  interval_cases k <;> simp

theorem hostWriteIgnored (off : BitVec 6) (data : Word) : Statement (.hostWriteIgnored off data) := by
  refine fun _ => ⟨rfl, ?_⟩
  apply BitVec.eq_of_getLsbD_eq
  intro k hk
  simp only [valueOf, encode, rowOf, BitVec.getLsbD_and, hostopWord_bit]
  interval_cases k <;> simp

theorem hostRead (off : BitVec 6) : Statement (.hostRead off) := by
  revert off
  unfold Statement
  decide

theorem reset : Statement .reset := by intro _; decide

end TableBits

end Sys2Proof.Laws
end

