-- ==== Sys2Proof/Tests/Slice0.lean ====
section
/-! SUPPORT. Tests. The expected values are spec/95_test_vectors.md's (its vector ids are named) or are written out from
the encoding tables of spec/30_encoding.md. The `witness_` theorems show, for each statement with hypotheses, concrete
data that meet them. -/

namespace Sys2Proof.Tests

open Sys2Proof.Machine Sys2Proof.Safety

set_option Elab.async false

/-- The result is a next state with property `p`. -/
def nextHas (r : Result) (p : State → Bool) : Bool :=
  match r with
  | .next t => p t
  | .fault _ => false
  | .refused _ => false

/-- The result is this refusal. -/
def refuses (r : Result) (e : Refusal) : Bool :=
  match r with
  | .next _ => false
  | .fault _ => false
  | .refused e' => e' == e

/-- The result is this fault. -/
def faults (r : Result) (e : Fault) : Bool :=
  match r with
  | .next _ => false
  | .fault e' => e' == e
  | .refused _ => false

/-- STATUS of a state. -/
def status (s : State) : Word := s.readReg 0x04#6

/-- Idle with the link open, IMAGE_LEN written and the image bytes 00 01 02 loaded. -/
def idleWith (len : Word) : State :=
  { State.reset with imageLen := len, linkReady := true, image := [(0, 0x00#8), (1, 0x01#8), (2, 0x02#8)] }

/-- AllocateSent with the given sizes, its window open. -/
def sentWith (len : Word) (count : BlockNum) (size : Word) : State :=
  { idleWith len with
    state := .allocateSent, blockCount := count, allocSize := size, framesSent := 1#32, ackWait := true
    serCmd := 0x01#8, serLen := 4#16, serPos := 4#16
    lastFcs := checksum (frameBody 0x01#8 (le32 size)), crc := checksum (frameBody 0x01#8 (le32 size))
    tx := frameBytes 0x01#8 (le32 size) }

/-- Uploading at block `i`, its window open. The TX stream is not filled in. -/
def uploadingAt (len : Word) (count : BlockNum) (size : Word) (i : BlockNum) : State :=
  { sentWith len count size with
    state := .uploading, blockIndex := i, framesSent := i.setWidth 32 + 2#32, serSrc := .image, tx := [] }

/-- Failed from AllocateSent with an error. -/
def failedWith (e : UploadError) : State := raise e { sentWith 3#32 1#24 512#32 with ackWait := false }

/-- Complete after one block. -/
def completed : State := complete { uploadingAt 3#32 1#24 512#32 0#24 with ackWait := false }

/-- The allocation frame of a 3-byte image in emission: bytes AA 01 gone, LEN_LO presented next. -/
def allocating : State :=
  { sentWith 3#32 1#24 512#32 with
    framesSent := 0#32, ackWait := false, serPhase := .lenLo, serPos := 0#16, crc := 0x5F#8, lastFcs := 0x00#8
    tx := [0xAA#8, 0x01#8] }

/-- Block 0 of a 3-byte image in emission: one payload byte gone, the second one wanted. -/
def sendingBlock : State :=
  { sentWith 3#32 1#24 512#32 with
    state := .uploading, ackWait := false, serPhase := .payload, serCmd := 0x03#8, serLen := 3#16, serPos := 1#16
    serSrc := .image, crc := checksum [0x03#8, 0x03#8, 0x00#8, 0x00#8]
    tx := frameBytes 0x01#8 (le32 512#32) ++ [0xAA#8, 0x03#8, 0x03#8, 0x00#8, 0x00#8] }

/-- AllocateSent with a move pending: a state of the invariant that is not the reset state. -/
def pendingSent (i : Input) : State := { sentWith 3#32 1#24 512#32 with inputs := [i] }

/-- The port values of a START write with a byte arriving in the same cycle. -/
def startPorts : PortsIn :=
  { readyPorts true with regReq := true, regWe := true, regWdata := 1#32, rxValid := true, rxData := 0x05#8 }

/-! Well-formedness: one ill-formed term for each check. -/

theorem test_wellFormed_last_zero : ¬ WellFormed (.frameBinaryBlockLast 0#16) := by decide +kernel
theorem test_wellFormed_last_513 : ¬ WellFormed (.frameBinaryBlockLast 513#16) := by decide +kernel
theorem test_wellFormed_ackError_success : ¬ WellFormed (.ackError 0x00#8) := by decide +kernel
theorem test_wellFormed_ignored_ctrl : ¬ WellFormed (.hostWriteIgnored 0x00#6 0#32) := by decide +kernel
theorem test_wellFormed_ignored_imageLen : ¬ WellFormed (.hostWriteIgnored 0x08#6 0#32) := by decide +kernel
theorem test_wellFormed_ignored_misaligned : ¬ WellFormed (.hostWriteIgnored 0x06#6 0#32) := by decide +kernel
theorem test_wellFormed_read_misaligned : ¬ WellFormed (.hostRead 0x02#6) := by decide +kernel

/-! Decoding: a word written out from R81, R88, R96, R98 for every operation. -/

theorem test_decode_frameAllocateMemory : decodeTableWord 32 0x000401AA = some .frameAllocateMemory := by decide +kernel
theorem test_decode_frameBinaryBlock : decodeTableWord 32 0x020002AA = some .frameBinaryBlock := by decide +kernel
theorem test_decode_frameBinaryBlockLast :
    decodeTableWord 32 0x005803AA = some (.frameBinaryBlockLast 0x58#16) := by decide +kernel
theorem test_decode_ackSuccess : decodeTableWord 16 0x100 = some .ackSuccess := by decide +kernel
theorem test_decode_ackError : decodeTableWord 16 0x107 = some (.ackError 0x07#8) := by decide +kernel
theorem test_decode_ackTimeout : decodeTableWord 16 0x000 = some .ackTimeout := by decide +kernel
theorem test_decode_hostStart : decodeTableWord 40 0x4000000001 = some (.hostStart 0#31) := by decide +kernel
theorem test_decode_hostStart_ignored_bits :
    decodeTableWord 40 0x4080000005 = some (.hostStart 0x40000002#31) := by decide +kernel
theorem test_decode_hostCtrlNop : decodeTableWord 40 0x4000000006 = some (.hostCtrlNop 3#31) := by decide +kernel
theorem test_decode_hostWriteImageLen :
    decodeTableWord 40 0x4800000258 = some (.hostWriteImageLen 600#32) := by decide +kernel
theorem test_decode_hostWriteIgnored :
    decodeTableWord 40 0x44FFFFFFFF = some (.hostWriteIgnored 0x04#6 0xFFFFFFFF#32) := by decide +kernel
theorem test_decode_hostRead : decodeTableWord 40 0x0400000000 = some (.hostRead 0x04#6) := by decide +kernel
theorem test_decode_reset : decodeTableWord 8 1 = some .reset := by decide +kernel

/-- R88, R91, R93, A7, G7: words that are no operation. -/
theorem test_decode_refused :
    decodeTableWord 16 0x005 = none ∧ decodeTableWord 32 0x000400AA = none ∧ decodeTableWord 32 0x000404AA = none ∧
    decodeTableWord 32 0x000501AA = none ∧ decodeTableWord 32 0x010002AA = none ∧
    decodeTableWord 32 0x000401AB = none ∧ decodeTableWord 40 0x0600000000 = none ∧
    decodeTableWord 40 0x0400000001 = none ∧ decodeTableWord 8 0 = none := by decide +kernel

/-! The ChecksumEngine (vectors of 2.1). -/

theorem test_crcBit_odd : crcBit 0x01#8 = 0x59#8 ∧ crcBit 0x59#8 = 0x75#8 ∧ crcBit 0xFF#8 = 0x26#8 := by decide +kernel
theorem test_crcBit_even : crcBit 0x02#8 = 0x01#8 ∧ crcBit 0x80#8 = 0x40#8 ∧ crcBit 0xB3#8 = 0x00#8 := by decide +kernel
theorem test_crcByte_trace :
    (List.range 9).map (fun k => crcBits k 0x01#8) =
      [0x01#8, 0x59#8, 0x75#8, 0x63#8, 0x68#8, 0x34#8, 0x1A#8, 0x0D#8, 0x5F#8] := by decide +kernel
theorem test_checksum_golden : checksum [0x01#8, 0x00#8, 0x00#8] = 0x49#8 := by decide +kernel
theorem test_checksum_digits :
    checksum [0x31#8, 0x32#8, 0x33#8, 0x34#8, 0x35#8, 0x36#8, 0x37#8, 0x38#8, 0x39#8] = 0x28#8 := by decide +kernel

/-- 2.6: byte 01 loaded, after the edges of cycles 0, 1, 7 and 8. -/
theorem test_checksum_unit :
    nextHas (crcCycle false (some 0x01#8) State.reset) (fun t => t.crc == 0x01#8 && t.crcCnt == 8#4 && t.crcBusy) ∧
    nextHas (andThen (crcCycle false (some 0x01#8) State.reset) (crcIdleCycles 1))
      (fun t => t.crc == 0x59#8 && t.crcCnt == 7#4) ∧
    nextHas (andThen (crcCycle false (some 0x01#8) State.reset) (crcIdleCycles 7))
      (fun t => t.crc == 0x0D#8 && t.crcCnt == 1#4 && t.crcBusy) ∧
    nextHas (andThen (crcCycle false (some 0x01#8) State.reset) (crcIdleCycles 8))
      (fun t => t.crc == 0x5F#8 && t.crcCnt == 0#4 && !t.crcBusy) := by decide +kernel

/-! The FrameCodec (vectors F, A and K of 2.2). -/

theorem test_build_F3 :
    buildFrame 0x01#8 [0x00#8, 0x04#8, 0x00#8, 0x00#8] =
      some [0xAA#8, 0x01#8, 0x04#8, 0x00#8, 0x00#8, 0x04#8, 0x00#8, 0x00#8, 0x34#8, 0x55#8] := by decide +kernel
theorem test_build_F10 :
    buildFrame 0x03#8 [0x00#8, 0x01#8, 0x02#8] =
      some [0xAA#8, 0x03#8, 0x03#8, 0x00#8, 0x00#8, 0x01#8, 0x02#8, 0x37#8, 0x55#8] := by decide +kernel
theorem test_build_F15_no_escape :
    buildFrame 0x03#8 [0xAA#8, 0x55#8] =
      some [0xAA#8, 0x03#8, 0x02#8, 0x00#8, 0xAA#8, 0x55#8, 0x58#8, 0x55#8] := by decide +kernel
theorem test_parse_A2_A3_A4 :
    parseAck [0x01#8] = .status 0x01#8 ∧ parseAck [] = .timeoutError ∧
    parseAck [0x00#8, 0x07#8] = .status 0x00#8 := by decide +kernel
theorem test_check_K1 : frameCheck [0xAA#8, 0x01#8, 0x00#8, 0x00#8, 0x49#8] = .error .tooShort := by decide +kernel
theorem test_check_K2 :
    frameCheck [0xAB#8, 0x03#8, 0x01#8, 0x00#8, 0x00#8, 0x6B#8, 0x55#8] = .error .badStart := by decide +kernel
theorem test_check_K3 : frameCheck [0xAA#8, 0x03#8, 0x01#8, 0x00#8, 0x00#8, 0x6B#8] = .error .badLength := by decide +kernel
theorem test_check_K4 :
    frameCheck [0xAA#8, 0x03#8, 0x01#8, 0x00#8, 0x00#8, 0x6B#8, 0x56#8] = .error .badEnd := by decide +kernel
theorem test_check_K5 :
    frameCheck [0xAA#8, 0x03#8, 0x01#8, 0x00#8, 0x00#8, 0x6A#8, 0x55#8] = .error .badChecksum := by decide +kernel
theorem test_check_K6 :
    frameCheck [0xAA#8, 0x04#8, 0x00#8, 0x00#8, 0x42#8, 0x55#8] = .error .unknownCommand := by decide +kernel
theorem test_check_K8 :
    frameCheck [0xAA#8, 0x01#8, 0x00#8, 0x00#8, 0x49#8, 0x55#8] = .error .badAllocLength := by decide +kernel
theorem test_check_K9 :
    frameCheck [0xAA#8, 0x02#8, 0x00#8, 0x00#8, 0x21#8, 0x55#8] = .error .badBlockLength := by decide +kernel
theorem test_check_K12 :
    frameCheck [0xAA#8, 0x03#8, 0x02#8, 0x00#8, 0xAA#8, 0x55#8, 0x58#8, 0x55#8] =
      .ok (0x03#8, [0xAA#8, 0x55#8]) := by decide +kernel

/-! Segmentation (S1 of 2.3). -/

theorem test_segmentation :
    [0, 1, 512, 513, 600, 1025, 0xFFFFFE00].map blockCountOf = [0, 1, 1, 2, 2, 3, 0x7FFFFF] ∧
    [0, 1, 512, 513, 600, 1025, 0xFFFFFE00].map allocSizeOf = [0, 512, 512, 1024, 1024, 1536, 0xFFFFFE00] ∧
    blockLen 600 0 = 512 ∧ blockLen 600 1 = 88 ∧ blockLen 1024 1 = 512 ∧ blockLen 511 0 = 511 ∧
    blockCmd 2 0 = 0x02#8 ∧ blockCmd 2 1 = 0x03#8 := by decide +kernel

/-! The operations, one step each (vectors T of 2.4 and G of 2.5). -/

theorem test_hostStart_T3 :
    nextHas (exec (.hostStart 0#31) (idleWith 600#32)) fun t =>
      t.tx == [0xAA#8, 0x01#8, 0x04#8, 0x00#8, 0x00#8, 0x04#8, 0x00#8, 0x00#8, 0x34#8, 0x55#8] &&
      t.blockCount == 2#24 && t.allocSize == 0x400#32 && t.framesSent == 1#32 && t.lastFcs == 0x34#8 &&
      status t == 0x1001#32 := by decide +kernel
theorem test_hostStart_T2 :
    nextHas (exec (.hostStart 0#31) { idleWith 600#32 with linkReady := false }) fun t =>
      t.tx == [] && status t == 0x081C#32 && t.framesSent == 0#32 := by decide +kernel
theorem test_hostStart_T1 : refuses (exec (.hostStart 0#31) (idleWith 0xFFFFFFFF#32)) .imageTooLong := by decide +kernel
theorem test_ackSuccess_T4 :
    nextHas (exec .ackSuccess (sentWith 0#32 0#24 0#32)) fun t =>
      status t == 0x180B#32 && t.tx.length == 10 && t.blockIndex == 0#24 := by decide +kernel
/-- P5: block 0 of a three-byte image is frame F10. -/
theorem test_ackSuccess_last_block :
    nextHas (exec .ackSuccess (sentWith 3#32 1#24 512#32)) fun t =>
      t.tx.drop 10 == [0xAA#8, 0x03#8, 0x03#8, 0x00#8, 0x00#8, 0x01#8, 0x02#8, 0x37#8, 0x55#8] &&
      t.framesSent == 2#32 && t.lastFcs == 0x37#8 && status t == 0x1002#32 := by decide +kernel
theorem test_ackSuccess_T9 :
    nextHas (exec .ackSuccess (uploadingAt 600#32 2#24 0x400#32 1#24)) fun t =>
      status t == 0x180B#32 && t.blockIndex == 1#24 && t.framesSent == 3#32 := by decide +kernel
theorem test_ackError_T6 :
    nextHas (exec (.ackError 0x05#8) (sentWith 600#32 2#24 0x400#32)) fun t =>
      status t == 0x193C#32 && t.errCode == 0x05#8 && t.errBlock == 0#24 := by decide +kernel
theorem test_ackError_T10 :
    nextHas (exec (.ackError 0x01#8) (uploadingAt 600#32 2#24 0x400#32 1#24)) fun t =>
      status t == 0x1A4C#32 && t.errCode == 0x01#8 && t.errBlock == 1#24 && t.framesSent == 3#32 := by decide +kernel
theorem test_ackTimeout_T7 :
    nextHas (exec .ackTimeout (sentWith 600#32 2#24 0x400#32)) fun t =>
      status t == 0x192C#32 && t.errCode == 0x00#8 && t.errBlock == 0#24 := by decide +kernel
theorem test_ackTimeout_T11 :
    nextHas (exec .ackTimeout (uploadingAt 600#32 2#24 0x400#32 0#24)) fun t =>
      status t == 0x1A2C#32 && t.errBlock == 0#24 := by decide +kernel
theorem test_ackSuccess_T12 : nextHas (exec .ackSuccess (idleWith 3#32)) (fun t => t == idleWith 3#32) := by decide +kernel
theorem test_complete_T13 :
    nextHas (exec (.ackError 0x01#8) completed) (fun t => t == completed) ∧
    nextHas (exec .ackTimeout completed) (fun t => t == completed) ∧
    nextHas (exec (.hostStart 0#31) completed) (fun t => t == completed) := by decide +kernel
theorem test_hostWriteImageLen_G5 :
    nextHas (exec (.hostWriteImageLen 0xFFFFFFFF#32) (idleWith 3#32)) (fun t => t.imageLen == 0xFFFFFFFF#32) := by
  decide +kernel
theorem test_hostWriteImageLen_T15 :
    nextHas (exec (.hostWriteImageLen 5#32) (uploadingAt 600#32 2#24 0x400#32 0#24))
      (fun t => t.imageLen == 600#32) := by decide +kernel
theorem test_hostCtrlNop_G4 :
    nextHas (exec (.hostCtrlNop 0#31) (idleWith 3#32)) (fun t => t == idleWith 3#32) := by decide +kernel
theorem test_hostWriteIgnored_G6 :
    nextHas (exec (.hostWriteIgnored 0x04#6 0xFFFFFFFF#32) (idleWith 3#32)) (fun t => status t == 0x1000#32) := by
  decide +kernel
theorem test_hostRead_G1_G2 :
    nextHas (exec (.hostRead 0x04#6) State.reset) (fun t => t.regRdata == some 0x00000000#32) ∧
    nextHas (exec (.hostRead 0x04#6) { State.reset with linkReady := true })
      (fun t => t.regRdata == some 0x00001000#32) := by decide +kernel
theorem test_hostRead_G7 :
    refuses (exec (.hostRead 0x06#6) State.reset) .badRegisterAccess ∧
    refuses (runInput (.access false 16 0x04 0#32) State.reset) .badRegisterAccess := by decide +kernel
theorem test_reset_T16 :
    nextHas (exec .reset (failedWith (.allocation 0x05#8))) fun t =>
      status t == 0x1000#32 && t.errCode == 0x00#8 && t.allocSize == 0#32 && t.imageLen == 0#32 && t.tx == [] &&
      t.txPast.length == 10 := by decide +kernel
/-- The frame of F2, as the operation that emits it. -/
theorem test_frameAllocateMemory :
    nextHas (exec .frameAllocateMemory { idleWith 3#32 with allocSize := 512#32 }) fun t =>
      t.tx == [0xAA#8, 0x01#8, 0x04#8, 0x00#8, 0x00#8, 0x02#8, 0x00#8, 0x00#8, 0x57#8, 0x55#8] &&
      t.framesSent == 1#32 && t.ackWait := by decide +kernel
/-- The frame of F10, as the operation that emits it. -/
theorem test_frameBinaryBlockLast :
    nextHas (exec (.frameBinaryBlockLast 3#16) { uploadingAt 3#32 1#24 512#32 0#24 with ackWait := false }) fun t =>
      t.tx == [0xAA#8, 0x03#8, 0x03#8, 0x00#8, 0x00#8, 0x01#8, 0x02#8, 0x37#8, 0x55#8] && t.lastFcs == 0x37#8 := by
  decide +kernel
/-- R134: a frame of block 0 of two is 518 bytes. -/
theorem test_frameBinaryBlock :
    nextHas (exec .frameBinaryBlock { uploadingAt 600#32 2#24 0x400#32 0#24 with ackWait := false }) fun t =>
      t.tx.length == 518 && t.serCmd == 0x02#8 && t.framesSent == 3#32 := by decide +kernel

/-! The byte level (R206 to R217). -/

/-- R211: after AA and the command byte the low length byte 04 is presented, and it transfers. -/
theorem test_cycle_transfer :
    allocating.txByte? = some 0x04#8 ∧
    nextHas (cycle (readyPorts true) allocating) fun t =>
      t.tx == [0xAA#8, 0x01#8, 0x04#8] && t.serPhase == .lenHi && t.crcCnt == 8#4 && t.crc == 0x5B#8 := by decide +kernel
/-- R207, R213: the image port's answer at address 1 is held, not yet sent. -/
theorem test_cycle_image :
    sendingBlock.imgReq = true ∧ sendingBlock.imgAddr = 1#32 ∧
    nextHas (cycle (readyPorts true) sendingBlock) fun t => t.serHeld == some 0x01#8 && t.serPos == 1#16 := by decide +kernel
/-- R249(b): a byte beats a timeout in the same cycle. -/
theorem test_cycle_byte_beats_timeout :
    nextHas (cycle { readyPorts true with rxValid := true, rxData := 0x05#8, rxTimeout := true }
      (sentWith 600#32 2#24 0x400#32)) (fun t => t.errKind == .allocation && t.errCode == 0x05#8) := by decide +kernel

/-! A step: the placed word is what runs. -/

theorem test_step_runs_placed_word :
    nextHas (step (State.reset.withFetchWord 40 0x4800000258)) (fun t => t.imageLen == 600#32) := by decide +kernel
theorem test_step_waits : nextHas (step State.reset) (fun t => t == State.reset) := by decide +kernel

/-! Witnesses: data that meet the hypotheses of the statements, clause by clause. -/

theorem witness_ChecksumWithItsOwnByteIsZero :
    checksum ([0x01#8] ++ [0x5F#8]) = 0x00#8 ∧ BitVec.getLsbD 0x5F#8 7 = false ∧ 0x5F#8 = checksum [0x01#8] := by
  decide +kernel
theorem witness_ChecksumIsLinear :
    [0x12#8, 0x34#8].length = [0x56#8, 0x78#8].length ∧
    checksum (List.zipWith (fun x y => x ^^^ y) [0x12#8, 0x34#8] [0x56#8, 0x78#8]) = 0x31#8 ∧
    checksum [0x12#8, 0x34#8] ^^^ checksum [0x56#8, 0x78#8] = 0x31#8 := by decide +kernel
theorem witness_ChecksumUnitTakesEightCycles :
    ({ State.reset with crcCnt := 8#4 } : State).crcCnt ≠ 0#4 ∧
    faults (crcCycle false (some 0x01#8) { State.reset with crcCnt := 1#4 }) .crcLoadBusy ∧
    State.reset.crcCnt = 0#4 ∧ 0 < 8 ∧ 7 < 8 := by decide +kernel
theorem witness_BuildFrameLayout :
    (List.replicate 0 0x00#8).length ≤ 65535 ∧ (List.replicate 65535 0x00#8).length ≤ 65535 := by
  simp only [List.length_replicate]
  decide
theorem witness_BuildFrameRefusesOverlongPayload :
    65535 < (List.replicate 65536 0x00#8).length ∧ 0 < blockCountOf (idleWith 1#32).imageLen.toNat ∧
    1 < blockCountOf (idleWith 600#32).imageLen.toNat := by
  simp only [List.length_replicate]
  decide +kernel
theorem witness_FrameCheckAcceptsBuiltFrames :
    (0x01#8 = 0x01#8 ∧ [0x00#8, 0x02#8, 0x00#8, 0x00#8].length = 4 ∧
      buildFrame 0x01#8 [0x00#8, 0x02#8, 0x00#8, 0x00#8] =
        some [0xAA#8, 0x01#8, 0x04#8, 0x00#8, 0x00#8, 0x02#8, 0x00#8, 0x00#8, 0x57#8, 0x55#8]) ∧
    (1 ≤ [0xB3#8].length ∧ [0xB3#8].length ≤ 512 ∧
      buildFrame 0x02#8 [0xB3#8] = some [0xAA#8, 0x02#8, 0x01#8, 0x00#8, 0xB3#8, 0x75#8, 0x55#8]) := by decide +kernel
theorem witness_FrameCheckAcceptsOnlyBuiltFrames :
    frameCheck [0xAA#8, 0x01#8, 0x04#8, 0x00#8, 0x00#8, 0x02#8, 0x00#8, 0x00#8, 0x57#8, 0x55#8] =
      .ok (0x01#8, [0x00#8, 0x02#8, 0x00#8, 0x00#8]) ∧
    frameCheck [0xAA#8, 0x03#8, 0x01#8, 0x00#8, 0x00#8, 0x6B#8, 0x55#8] = .ok (0x03#8, [0x00#8]) := by decide +kernel
theorem witness_FrameCheckTestIsZeroTest :
    [0xAA#8, 0x03#8, 0x01#8, 0x00#8, 0x00#8, 0x6B#8, 0x55#8].length =
      6 + frameLen [0xAA#8, 0x03#8, 0x01#8, 0x00#8, 0x00#8, 0x6B#8, 0x55#8] := by decide +kernel
theorem witness_SegmentationArithmetic : 0xFFFFFE00 ≤ 0xFFFFFE00 ∧ 0xFFFFFE00 < 0xFFFFFE01 := by decide +kernel
theorem witness_BlocksTileTheImage :
    0 + 1 < blockCountOf 513 ∧ 1 + 1 = blockCountOf 513 ∧ 0 + 1 = blockCountOf 512 ∧ 1 < blockCountOf 513 := by
  decide +kernel
theorem witness_RegisterViewOffsets : 0x28 ≤ (0x28#6).toNat ∧ 0x28 ≤ (0x3F#6).toNat := by decide +kernel
theorem witness_HostReadReturnsRegister : (0x00#6).toNat % 4 = 0 ∧ (0x3C#6).toNat % 4 = 0 := by decide +kernel
theorem witness_ImageLenWrittenInIdleOnly : (idleWith 0#32).state = .idle ∧ completed.state ≠ .idle := by decide +kernel

/-- START at both ends of the lengths it accepts. -/
theorem witness_StartSendsAllocationFrame :
    ∀ s ∈ [idleWith 0#32, idleWith 600#32, idleWith 0xFFFFFE00#32],
      s.state = .idle ∧ s.serPhase = .idle ∧ s.linkReady = true ∧ s.imageLen.toNat ≤ 0xFFFFFE00 ∧
      nextHas (exec (.hostStart 0#31) s) (fun t => t.state == .allocateSent) := by decide +kernel
theorem witness_StartRefusedFailedOrIgnored :
    ((idleWith 0xFFFFFE01#32).state = .idle ∧ 0xFFFFFE00 < (idleWith 0xFFFFFE01#32).imageLen.toNat) ∧
    (State.reset.state = .idle ∧ State.reset.imageLen.toNat ≤ 0xFFFFFE00 ∧ State.reset.linkReady = false) ∧
    (sentWith 3#32 1#24 512#32).state ≠ .idle ∧ (failedWith .transportOpen).state ≠ .idle := by decide +kernel
theorem witness_AllocationAckSendsBlockZero :
    ((sentWith 3#32 1#24 512#32).state = .allocateSent ∧ (sentWith 3#32 1#24 512#32).serPhase = .idle ∧
      Latched (sentWith 3#32 1#24 512#32) ∧ (sentWith 3#32 1#24 512#32).blockCount ≠ 0#24) ∧
    ((sentWith 600#32 2#24 1024#32).state = .allocateSent ∧ (sentWith 600#32 2#24 1024#32).serPhase = .idle ∧
      Latched (sentWith 600#32 2#24 1024#32) ∧ (sentWith 600#32 2#24 1024#32).blockCount ≠ 0#24) := by decide +kernel
theorem witness_BlockAckSendsNextBlock :
    ∀ s ∈ [uploadingAt 600#32 2#24 1024#32 0#24, uploadingAt 1025#32 3#24 1536#32 0#24],
      s.state = .uploading ∧ s.serPhase = .idle ∧ Latched s ∧ s.blockIndex.toNat + 1 < s.blockCount.toNat := by
  decide +kernel
theorem witness_LastAckCompletesSession :
    ((sentWith 0#32 0#24 0#32).serPhase = .idle ∧ (sentWith 0#32 0#24 0#32).state = .allocateSent ∧
      (sentWith 0#32 0#24 0#32).blockCount = 0#24) ∧
    ((uploadingAt 600#32 2#24 1024#32 1#24).serPhase = .idle ∧
      (uploadingAt 600#32 2#24 1024#32 1#24).state = .uploading ∧
      (uploadingAt 600#32 2#24 1024#32 1#24).blockIndex.toNat + 1 =
        (uploadingAt 600#32 2#24 1024#32 1#24).blockCount.toNat) := by decide +kernel
theorem witness_TimeoutFailsSession :
    ∀ s ∈ [sentWith 3#32 1#24 512#32, uploadingAt 600#32 2#24 1024#32 1#24],
      s.serPhase = .idle ∧ (s.state = .allocateSent ∨ s.state = .uploading) := by decide +kernel
theorem witness_ErrorAckFailsSession :
    ((sentWith 3#32 1#24 512#32).serPhase = .idle ∧ 0x01#8 ≠ 0x00#8 ∧
      (sentWith 3#32 1#24 512#32).state = .allocateSent) ∧
    ((uploadingAt 600#32 2#24 1024#32 1#24).serPhase = .idle ∧ 0xFF#8 ≠ 0x00#8 ∧
      (uploadingAt 600#32 2#24 1024#32 1#24).state = .uploading) := by decide +kernel
theorem witness_EventsWithoutWindowDiscarded :
    ∀ s ∈ [State.reset, completed, failedWith .transportOpen, allocating],
      s.state = .idle ∨ s.state = .complete ∨ s.state = .failed ∨ s.serPhase ≠ .idle := by decide +kernel
/-- The parts of the invariant, as one decision. -/
def invHolds (s : State) : Bool :=
  s.image.wf && decide (ErrorsFit s) && decide (Started s → Latched s) && decide (¬ Started s → Unstarted s) &&
    decide (IndexFits s) && decide (FramesCounted s) && decide (SerializerFits s) && s.inputs.all Input.delivered

theorem inv_of {s : State} (h : invHolds s = true) : Inv s := by
  simp only [invHolds, Bool.and_eq_true, decide_eq_true_eq, List.all_eq_true] at h
  obtain ⟨⟨⟨⟨⟨⟨⟨memory, errors⟩, latched⟩, unstarted⟩, index⟩, frames⟩, serializer⟩, moves⟩ := h
  exact ⟨memory, errors, latched, unstarted, index, frames, serializer, moves⟩

theorem witness_TerminalStatesChangeNothing :
    (∀ s ∈ [completed, failedWith (.allocation 0x7F#8)], s.state = .complete ∨ s.state = .failed) ∧
    (∀ i ∈ [Instr.ackSuccess, .hostStart 0#31, .hostWriteImageLen 5#32, .hostRead 0x3C#6],
      isAccessOrEvent i = true ∧ WellFormed i) := by decide +kernel
/-- A cycle in a terminal state: START with a byte arriving, a misaligned access, a read. -/
theorem witness_TerminalStatesChangeNothing_cycle :
    Inv completed ∧ Inv (failedWith (.allocation 0x7F#8)) ∧ startPorts.rst = false ∧
    (startPorts.regReq = true ∧ startPorts.regOff.toNat % 4 = 0 ∧ startPorts.regWe = true ∧
      nextHas (cycle startPorts completed) (fun t => t == completed)) ∧
    refuses (cycle { startPorts with regOff := 0x3F#6 } (failedWith (.allocation 0x7F#8))) .badRegisterAccess ∧
    nextHas (cycle { startPorts with regWe := false, regOff := 0x18#6 } (failedWith (.allocation 0x7F#8)))
      (fun t => t.regRdata == some 0x7F#32) :=
  ⟨inv_of (by decide +kernel), inv_of (by decide +kernel), rfl, by decide +kernel⟩
theorem witness_AllocationFrameOperationEmits :
    (idleWith 3#32).state = .idle ∧ (idleWith 3#32).ackWait = false ∧ (idleWith 3#32).serPhase = .idle := by decide +kernel
theorem witness_BlockFrameOperationsEmit :
    (∀ s ∈ [uploadingAt 600#32 2#24 1024#32 0#24, uploadingAt 600#32 2#24 1024#32 1#24].map
        (fun s => { s with ackWait := false }),
      s.state = .uploading ∧ s.ackWait = false ∧ s.serPhase = .idle ∧ Latched s) ∧
    (0#24).toNat + 1 < (2#24).toNat ∧ (1#24).toNat + 1 = (2#24).toNat ∧
    (88#16).toNat = (600#32).toNat - 512 * (1#24).toNat := by decide +kernel
theorem witness_FrameOperationsElsewhereDoNothing :
    (sentWith 3#32 1#24 512#32).allocationDue = false ∧ State.reset.blockDue = false ∧
    State.reset.lastBlockDue = false ∧
    (4#16).toNat ≠ blockLen (uploadingAt 3#32 1#24 512#32 0#24).imageLen.toNat 0 ∧
    completed.state.terminal = true ∧ State.reset.blockCount = 0#24 := by decide +kernel

theorem witness_inv_pendingSent : Inv (pendingSent (.rx [0x00#8])) ∧ StreamInv (pendingSent (.rx [0x00#8])) :=
  ⟨inv_of (by decide +kernel),
    ⟨by decide +kernel, by decide +kernel, by intro b h; cases h⟩⟩
theorem witness_StateMovesByListedTransitions :
    Instr.ackSuccess ≠ .reset ∧
    nextHas (exec .ackSuccess (sentWith 3#32 1#24 512#32)) (fun t => t.state == .uploading) ∧
    isReset (.rx [0x00#8]) = false ∧
    nextHas (step (pendingSent (.rx [0x00#8]))) (fun t => t.state == .uploading) := by decide +kernel
theorem witness_ReleasedSetOnTerminalEntry :
    Instr.ackTimeout ≠ .reset ∧
    nextHas (exec .ackTimeout (sentWith 3#32 1#24 512#32)) (fun t => t.released && t.state.terminal) ∧
    completed.state.terminal = true ∧
    nextHas (exec (.hostCtrlNop 0#31) completed) (fun t => t.state == .complete) := by decide +kernel
theorem witness_ErrorFieldsWrittenOnFailure :
    nextHas (exec (.ackError 0x07#8) (sentWith 3#32 1#24 512#32)) (fun t => t.state == .failed) ∧
    nextHas (exec .ackSuccess (sentWith 3#32 1#24 512#32)) (fun t => t.errKind == .none) := by decide +kernel
theorem witness_TxGrowsByWholeFrames :
    nextHas (exec .reset (sentWith 3#32 1#24 512#32)) (fun t => t.tx == [] && t.txPast.length == 10) ∧
    nextHas (exec .ackSuccess (sentWith 3#32 1#24 512#32)) (fun t => t.tx.length == 19) := by decide +kernel
theorem witness_OperationsChangeOnlyTheirFields :
    WellFormed (.ackError 0x01#8) ∧
    nextHas (exec (.ackError 0x01#8) (sentWith 3#32 1#24 512#32)) (fun t => t.state == .failed) := by decide +kernel
theorem witness_SessionOutcomesAndFrameCounts :
    (Inv completed ∧ completed.state = .complete) ∧
    (Inv (raise .transportOpen State.reset) ∧ (raise .transportOpen State.reset).state = .failed) ∧
    (Inv (failedWith (.allocation 0x7F#8)) ∧ (failedWith (.allocation 0x7F#8)).state = .failed) ∧
    (Inv (raise (.transfer 1#24 0x01#8) { uploadingAt 600#32 2#24 1024#32 1#24 with ackWait := false }) ∧
      (raise (.transfer 1#24 0x01#8) { uploadingAt 600#32 2#24 1024#32 1#24 with ackWait := false }).state =
        .failed) :=
  ⟨⟨inv_of (by decide +kernel), rfl⟩,
    ⟨inv_of (by decide +kernel), rfl⟩,
    ⟨inv_of (by decide +kernel), rfl⟩,
    ⟨inv_of (by decide +kernel), rfl⟩⟩
/-- A step that fails a session, and one that completes it. -/
theorem witness_SessionOutcomesAndFrameCounts_step :
    Inv (pendingSent (.rx [])) ∧ (pendingSent (.rx [])).state ≠ .complete ∧ (pendingSent (.rx [])).state ≠ .failed ∧
    nextHas (step (pendingSent (.rx []))) (fun t => t.state == .failed && t.failState == .allocateSent) ∧
    Inv { sentWith 0#32 0#24 0#32 with inputs := [.rx [0x00#8]] } ∧
    nextHas (step { sentWith 0#32 0#24 0#32 with inputs := [.rx [0x00#8]] })
      (fun t => t.state == .complete && t.framesSent == 1#32) :=
  ⟨inv_of (by decide +kernel), by decide +kernel, by decide +kernel, by decide +kernel, inv_of (by decide +kernel),
    by decide +kernel⟩
theorem witness_StepRunsDecodedOperation :
    decode (.rxev 0x100#9) = .ok .ackSuccess ∧ decodeTableWord 16 0x100 = some .ackSuccess ∧
    State.reset.inputs = [] := ⟨rfl, by decide +kernel, rfl⟩
theorem witness_IllegalWordsRefused :
    decode (.rxev 0x005#9) = .error .timeoutWithStatus ∧ 0x05#8 ≠ 0#8 ∧ 0x00#8 ≠ 0x01#8 ∧ 0xFF#8 ≠ 0x03#8 ∧
    (0x06#6).toNat % 4 ≠ 0 ∧ 16 ≠ 32 ∧ 0x02 % 4 ≠ 0 ∧ 0x3F < 0x40 ∧ 0x3C % 4 = 0 ∧ 0x3C ≤ 0x3F :=
  ⟨rfl, by decide +kernel⟩
theorem witness_HostLoadWritesImage :
    (sentWith 3#32 1#24 512#32).state = .allocateSent ∧
    (State.reset.state ≠ .allocateSent ∧ State.reset.state ≠ .uploading ∧
      (0xFFFFFFFF#32).toNat + [0x11#8].length ≤ 2 ^ 32) ∧
    nextHas (runInput (.loadImage 0xFFFFFFFF#32 [0x11#8]) State.reset) (fun t => t.image == [(0xFFFFFFFF, 0x11#8)]) := by
  decide +kernel
theorem witness_DecodeOfEncode :
    ∀ i ∈ [Instr.frameBinaryBlockLast 1#16, .frameBinaryBlockLast 512#16, .ackError 0x01#8, .ackError 0xFF#8,
      .hostWriteIgnored 0x3C#6 0xFFFFFFFF#32, .hostRead 0x3C#6, .hostStart 0x7FFFFFFF#31], WellFormed i := by decide +kernel
theorem witness_EncodeOfDecode : decode (.rxev 0x107#9) = .ok (.ackError 0x07#8) ∧
    ∀ len, Instr.ackError 0x07#8 ≠ .frameBinaryBlockLast len := ⟨rfl, fun _ h => by cases h⟩
theorem witness_LinkReadRunsAsFirstByte : 0x01#8 ≠ 0x00#8 ∧ 0xFF#8 ≠ 0x00#8 := by decide +kernel
theorem witness_OperationsLeaveImageAndInputs :
    nextHas (exec .ackSuccess (sentWith 3#32 1#24 512#32)) (fun t => t.image == (idleWith 3#32).image) ∧
    nextHas (exec .reset (sentWith 3#32 1#24 512#32)) (fun t => t.image == (idleWith 3#32).image) := by decide +kernel
theorem witness_StepKeepsSessionStream :
    Inv (pendingSent (.clock (readyPorts true))) ∧ StreamInv (pendingSent (.clock (readyPorts true))) ∧
    nextHas (step (pendingSent (.clock (readyPorts true)))) (fun t => t.state == .allocateSent) :=
  ⟨inv_of (by decide +kernel),
    ⟨by decide +kernel, by decide +kernel, by intro b h; cases h⟩, by decide +kernel⟩
theorem witness_StepKeepsInvariant :
    nextHas (step (pendingSent (.rx [0x00#8]))) (fun t => t.framesSent == 2#32) := by decide +kernel
/-- The only fault left under the invariant: a load past the last address. -/
theorem witness_RulesReachNoModelFault :
    Inv { State.reset with inputs := [.loadImage 0xFFFFFFFF#32 [0x00#8, 0x00#8]] } ∧
    faults (step { State.reset with inputs := [.loadImage 0xFFFFFFFF#32 [0x00#8, 0x00#8]] }) .imageAddressOutside :=
  ⟨inv_of (by decide +kernel), by decide +kernel⟩
theorem witness_SessionUploadsWholeImage :
    ∀ s ∈ [idleWith 0#32, idleWith 3#32, idleWith 0xFFFFFE00#32],
      s.state = .idle ∧ s.serPhase = .idle ∧ s.linkReady = true ∧ s.imageLen.toNat ≤ 0xFFFFFE00 := by decide +kernel
theorem witness_ByteLevelFrameIsTheWholeFrame :
    nextHas (emitFrame .cycle 0x03#8 (.block 0) (idleWith 3#32)) (fun t => t.serPhase == .sof) ∧
    nextHas (emitFrame .transaction 0x03#8 (.block 0) (idleWith 3#32)) (fun t => t.tx.length == 9) ∧
    nextHas (emitFrame .cycle 0x01#8 .alloc (idleWith 3#32)) (fun t => t.serPhase == .sof && t.serLen == 4#16) ∧
    nextHas (emitFrame .transaction 0x01#8 .alloc (idleWith 3#32)) (fun t => t.tx.length == 10) := by decide +kernel

theorem witness_CycleResetWins : ({ startPorts with rst := true } : PortsIn).rst = true := by decide +kernel
theorem witness_CycleStartLoadsSerializer :
    startPorts.rst = false ∧ startPorts.regReq = true ∧ startPorts.regWe = true ∧ startPorts.regOff = 0x00#6 ∧
    startPorts.regWdata.getLsbD 0 = true ∧ startPorts.linkReady = true ∧ (idleWith 600#32).state = .idle ∧
    (idleWith 600#32).serPhase = .idle ∧ (idleWith 600#32).ackWait = false ∧
    (idleWith 600#32).imageLen.toNat ≤ 0xFFFFFE00 := by decide +kernel
theorem witness_CycleByteBeatsTimeout :
    (sentWith 3#32 1#24 512#32).ackWait = true ∧
    ({ readyPorts true with rxValid := true, rxTimeout := true } : PortsIn).rxValid = true ∧
    ({ readyPorts true with rxTimeout := true } : PortsIn).rxTimeout = true ∧
    (readyPorts true).rxValid = false ∧ (readyPorts true).rxTimeout = false ∧
    nextHas (linkCycle { readyPorts true with rxTimeout := true } (sentWith 3#32 1#24 512#32))
      (fun t => !t.ackWait && t.errKind == .ackTimeout) := by decide +kernel
/-- The answers a cycle can take: block 0, block 1, the allocation of an empty image, the last block, an error, a
timeout and none. -/
theorem witness_CycleByteBeatsTimeout_cycle :
    Inv (sentWith 3#32 1#24 512#32) ∧ Inv (uploadingAt 600#32 2#24 1024#32 0#24) ∧
    Inv (sentWith 0#32 0#24 0#32) ∧ Inv (uploadingAt 600#32 2#24 1024#32 1#24) ∧
    (∀ s ∈ [sentWith 3#32 1#24 512#32, uploadingAt 600#32 2#24 1024#32 0#24, sentWith 0#32 0#24 0#32,
        uploadingAt 600#32 2#24 1024#32 1#24], s.ackWait = true) ∧
    nextHas (cycle { readyPorts true with rxValid := true } (sentWith 3#32 1#24 512#32))
      (fun t => t.serPhase == .sof && t.serCmd == 0x03#8 && t.serLen == 3#16 && t.serBase == 0#32) ∧
    nextHas (cycle { readyPorts true with rxValid := true } (uploadingAt 600#32 2#24 1024#32 0#24))
      (fun t => t.serPhase == .sof && t.serCmd == 0x03#8 && t.serLen == 88#16 && t.serBase == 512#32) ∧
    nextHas (cycle { readyPorts true with rxValid := true } (sentWith 0#32 0#24 0#32))
      (fun t => t.state == .complete && t.serPhase == .idle) ∧
    nextHas (cycle { readyPorts true with rxValid := true } (uploadingAt 600#32 2#24 1024#32 1#24))
      (fun t => t.state == .complete && t.released) ∧
    nextHas (cycle { readyPorts true with rxValid := true, rxData := 0xFF#8 } (uploadingAt 600#32 2#24 1024#32 1#24))
      (fun t => t.errKind == .transfer && t.errBlock == 1#24 && t.errCode == 0xFF#8) ∧
    nextHas (cycle { readyPorts true with rxTimeout := true } (uploadingAt 600#32 2#24 1024#32 1#24))
      (fun t => t.errKind == .ackTimeout && t.errBlock == 1#24) ∧
    nextHas (cycle (readyPorts true) (sentWith 3#32 1#24 512#32)) (fun t => t == sentWith 3#32 1#24 512#32) :=
  ⟨inv_of (by decide +kernel), inv_of (by decide +kernel), inv_of (by decide +kernel), inv_of (by decide +kernel),
    by decide +kernel⟩
/-- R249(d): a read of STATUS answers while the serializer transfers its byte; the write port in and outside Idle. -/
theorem witness_CycleRegisterPortRunsHostop :
    (startPorts.regReq = true ∧ startPorts.rst = false) ∧
    nextHas (cycle { readyPorts true with regReq := true, regOff := 0x04#6 } allocating)
      (fun t => t.regRdata == some 0x1001#32 && t.tx == [0xAA#8, 0x01#8, 0x04#8]) ∧
    refuses (cycle { readyPorts true with regReq := true, regOff := 0x3F#6 } allocating) .badRegisterAccess ∧
    (∀ s ∈ [allocating, completed], s.state ≠ .idle) ∧
    ((0x3C#6 ≠ 0x00#6 ∧ 0x3C#6 ≠ 0x08#6 ∧ (0x3C#6).toNat % 4 = 0) ∧ (6#32).getLsbD 0 = false) ∧
    nextHas (cycle { startPorts with regOff := 0x08#6, regWdata := 5#32 } allocating)
      (fun t => t.imageLen == 3#32 && t.tx == [0xAA#8, 0x01#8, 0x04#8]) :=
  ⟨⟨rfl, rfl⟩, by decide +kernel⟩
/-- The port in Idle: IMAGE_LEN, START with a too long image, START with no link, and an operation that is no START. -/
theorem witness_CycleRegisterPortRunsHostop_idle :
    Inv (idleWith 3#32) ∧ Inv (idleWith 0xFFFFFE01#32) ∧ (idleWith 0xFFFFFE01#32).state = .idle ∧
    nextHas (cycle { startPorts with regOff := 0x08#6, regWdata := 0xFFFFFFFF#32 } (idleWith 3#32))
      (fun t => t.imageLen == 0xFFFFFFFF#32) ∧
    refuses (cycle startPorts (idleWith 0xFFFFFE01#32)) .imageTooLong ∧
    nextHas (cycle { startPorts with linkReady := false } (idleWith 0xFFFFFE00#32))
      (fun t => t.errKind == .transportOpen && t.released) ∧
    decode (.hostop (hostopOfAccess true 0x08#6 5#32)) = .ok (.hostWriteImageLen 5#32) ∧
    ∀ ignored, Instr.hostWriteImageLen 5#32 ≠ .hostStart ignored :=
  ⟨inv_of (by decide +kernel), inv_of (by decide +kernel), rfl, by decide +kernel, by decide +kernel, by decide +kernel,
    by rfl, fun _ h => by cases h⟩
theorem witness_CycleDiscardsWithoutWindow : allocating.ackWait = false ∧ State.reset.ackWait = false := by decide +kernel
theorem witness_inv_emitting : Inv allocating ∧ StreamInv allocating ∧ Inv sendingBlock ∧ StreamInv sendingBlock :=
  ⟨inv_of (by decide +kernel),
    ⟨by decide +kernel, by decide +kernel, by intro b h; cases h⟩,
    inv_of (by decide +kernel),
    ⟨by decide +kernel, by decide +kernel, by intro b h; cases h⟩⟩
theorem witness_CycleHoldsHandshakes :
    allocating.txByte? = some 0x04#8 ∧ sendingBlock.txByte? = none ∧ sendingBlock.imgReq = true ∧
    nextHas (cycle { readyPorts true with txReady := false } allocating) (fun t => t.tx == allocating.tx) ∧
    nextHas (cycle { readyPorts true with imgAck := false } sendingBlock) (fun t => t.imgReq) ∧
    nextHas (cycle (readyPorts true) sendingBlock) (fun t => !t.imgReq) := by decide +kernel

end Sys2Proof.Tests
end

section
/-! The cases of one step (R15): which move it takes, and what an operation's word runs as. -/

namespace Sys2Proof.Machine

/-- With no move pending the block keeps its state (R178, R258). -/
theorem step_of_no_inputs {s : State} (h : s.inputs = []) : step s = .next s := by
  simp only [step, runNext, h]

/-- A step takes the first pending move and leaves the rest pending. -/
theorem step_of_inputs_cons {s : State} {i : Input} {rest : List Input} (h : s.inputs = i :: rest) :
    step s = runInput i (takeInput rest s) := by
  simp only [step, runNext, h]

/-- A word that decodes runs as its operation (R80). -/
theorem runWord_of_decode_ok {w : OpWord} {i : Instr} (h : decode w = .ok i) (s : State) :
    runWord w s = exec i s := by
  simp only [runWord, h]

/-- A step whose next move is a word that decodes executes the word's operation (R15). -/
theorem step_of_op_decode_ok {s : State} {w : OpWord} {rest : List Input} {i : Instr}
    (hs : s.inputs = .op w :: rest) (hw : decode w = .ok i) : step s = exec i (takeInput rest s) :=
  calc step s = runInput (.op w) (takeInput rest s) := step_of_inputs_cons hs
    _ = exec i (takeInput rest s) := runWord_of_decode_ok hw _

/-- A table word is read in the format of its width, and by nothing else (log 11). -/
theorem decodeTableWord_eq_some_iff {nbits w : Nat} {i : Instr} :
    decodeTableWord nbits w = some i ↔ decode (tableWord nbits w) = .ok i := by
  cases h : decode (tableWord nbits w) <;> simp [decodeTableWord, h]

theorem withFetchWord_inputs (s : State) (nbits w : Nat) :
    (s.withFetchWord nbits w).inputs = .op (tableWord nbits w) :: s.inputs := rfl

/-- Taking a placed word off again leaves the state with its read port cleared (log 6). -/
theorem takeInput_withFetchWord (s : State) (nbits w : Nat) :
    takeInput s.inputs (s.withFetchWord nbits w) = { s with regRdata := none } := rfl

end Sys2Proof.Machine

namespace Sys2Proof.Proofs

open Sys2Proof.Machine

/-- Settles O42: a placed table word is the case of a pending word with the moves of the state still pending after
it. -/
theorem stepRunsDecodedOperation : Obligations.StepRunsDecodedOperation := by
  refine ⟨fun s w rest i hs hw => step_of_op_decode_ok hs hw, fun s nbits w i hw => ?_,
    fun s hs => step_of_no_inputs hs⟩
  rw [← takeInput_withFetchWord s nbits w]
  exact step_of_op_decode_ok (withFetchWord_inputs s nbits w) (decodeTableWord_eq_some_iff.1 hw)

end Sys2Proof.Proofs
end

section
/-! The session's registers: what of the invariant speaks of them, and that the emission of a frame and the serializer
keep them. -/

namespace Sys2Proof.Machine

/-- `t` has the registers, the memory and the pending moves of `s` that a session is made of: all that the emission of
a frame leaves alone (R164, R210 to R214). -/
structure SessionKept (s t : State) : Prop where
  state : t.state = s.state
  errKind : t.errKind = s.errKind
  failState : t.failState = s.failState
  released : t.released = s.released
  imageLen : t.imageLen = s.imageLen
  blockCount : t.blockCount = s.blockCount
  allocSize : t.allocSize = s.allocSize
  blockIndex : t.blockIndex = s.blockIndex
  errCode : t.errCode = s.errCode
  errBlock : t.errBlock = s.errBlock
  image : t.image = s.image
  inputs : t.inputs = s.inputs

theorem SessionKept.refl (s : State) : SessionKept s s := by
  constructor <;> rfl

theorem SessionKept.trans {s t u : State} (h : SessionKept s t) (h' : SessionKept t u) : SessionKept s u where
  state := h'.state.trans h.state
  errKind := h'.errKind.trans h.errKind
  failState := h'.failState.trans h.failState
  released := h'.released.trans h.released
  imageLen := h'.imageLen.trans h.imageLen
  blockCount := h'.blockCount.trans h.blockCount
  allocSize := h'.allocSize.trans h.allocSize
  blockIndex := h'.blockIndex.trans h.blockIndex
  errCode := h'.errCode.trans h.errCode
  errBlock := h'.errBlock.trans h.errBlock
  image := h'.image.trans h.image
  inputs := h'.inputs.trans h.inputs

/-- EMIT_FRAME keeps the session's registers, at both levels. -/
theorem sessionKept_of_emitFrame {lv : Level} {cmd : Byte} {p : Payload} {s t : State}
    (h : emitFrame lv cmd p s = .next t) : SessionKept s t := by
  cases lv with
  | transaction =>
    obtain ⟨-, -, rfl⟩ := emitFrame_transaction_next.1 h
    constructor <;> simp
  | cycle =>
    obtain ⟨-, -, rfl⟩ := emitFrame_cycle_next.1 h
    constructor <;> simp

/-- The checksum unit keeps everything but its own two registers. -/
theorem sessionKept_of_crcCycle {clr : Bool} {load : Option Byte} {s t : State}
    (h : crcCycle clr load s = .next t) : SessionKept s t := by
  obtain ⟨-, rfl⟩ | ⟨-, b, -, -, rfl⟩ | ⟨-, -, -, rfl⟩ | ⟨-, -, -, rfl⟩ := crcCycle_next h <;>
    constructor <;> rfl

theorem sessionKept_of_serTransfer {b : Byte} {s t : State} (h : serTransfer b s = .next t) : SessionKept s t := by
  cases hp : s.serPhase <;> simp only [serTransfer, hp] at h
  case idle =>
    cases h
    exact .refl s
  all_goals
    refine .trans ?_ (sessionKept_of_crcCycle h)
    constructor <;> rfl

theorem sessionKept_of_serWait {ack : Bool} {s t : State} (h : serWait ack s = .next t) : SessionKept s t := by
  obtain ⟨u, ⟨-, hu⟩ | ⟨-, rfl⟩, ht⟩ := serWait_next h
  · obtain ⟨-, rfl⟩ := imageAnswer_next hu
    refine .trans ?_ (sessionKept_of_crcCycle ht)
    constructor <;> rfl
  · exact sessionKept_of_crcCycle ht

/-- A cycle of the serializer keeps the session's registers (R211 to R214). -/
theorem sessionKept_of_serCycle {ready ack : Bool} {s t : State} (h : serCycle ready ack s = .next t) :
    SessionKept s t := by
  obtain ⟨b, -, -, h⟩ | ⟨-, h⟩ := serCycle_next h
  · exact sessionKept_of_serTransfer h
  · exact sessionKept_of_serWait h

/-- EMIT_FRAME does not look at STATE. -/
theorem emitFrame_moveTo {lv : Level} {cmd : Byte} {p : Payload} {s t : State} (u : UploadState)
    (h : emitFrame lv cmd p s = .next t) : emitFrame lv cmd p (moveTo u s) = .next (moveTo u t) := by
  cases lv with
  | transaction =>
    obtain ⟨hi, hr, rfl⟩ := emitFrame_transaction_next.1 h
    refine emitFrame_transaction_next.2 ⟨hi, ?_, ?_⟩
    · cases p <;> exact hr
    · cases p <;> rfl
  | cycle =>
    obtain ⟨hi, hr, rfl⟩ := emitFrame_cycle_next.1 h
    refine emitFrame_cycle_next.2 ⟨hi, ?_, ?_⟩
    · cases p <;> exact hr
    · cases p <;> rfl

/-- With no byte to load the checksum unit at rest stays as it is (R203). -/
theorem crcCycle_of_not_busy {s : State} (h : s.crcCnt = 0#4) : crcCycle false none s = .next s := by
  simp [crcCycle, State.crcBusy, h]

/-! Bit 7 of the checksum (R117). -/

theorem crcBit_bit_seven (c : Byte) : (crcBit c).getLsbD 7 = false := by
  simp [crcBit]

theorem crcBits_bit_seven {c : Byte} (h : c.getLsbD 7 = false) (k : Nat) : (crcBits k c).getLsbD 7 = false := by
  induction k generalizing c with
  | zero => exact h
  | succ k ih => exact ih (crcBit_bit_seven c)

theorem crcByte_bit_seven (c b : Byte) : (crcByte c b).getLsbD 7 = false :=
  crcBits_bit_seven (crcBit_bit_seven (c ^^^ b)) 7

theorem crcRun_bit_seven {c : Byte} (h : c.getLsbD 7 = false) (data : List Byte) :
    (crcRun c data).getLsbD 7 = false := by
  induction data generalizing c with
  | nil => exact h
  | cons b bs ih => exact ih (crcByte_bit_seven c b)

theorem checksum_bit_seven (data : List Byte) : (checksum data).getLsbD 7 = false :=
  crcRun_bit_seven rfl data

end Sys2Proof.Machine
end

section
/-! The parts of the invariant that follow from the session's registers alone. -/

namespace Sys2Proof.Safety

open Sys2Proof.Machine

section
variable {s t : State} (hk : SessionKept s t)
include hk

theorem point_eq_of_sessionKept : point t = point s := by
  simp only [point, hk.state, hk.failState]

theorem errorsFit_of_sessionKept (h : ErrorsFit s) : ErrorsFit t := by
  simpa only [ErrorsFit, hk.state, hk.errKind, hk.failState, hk.released, hk.errCode, hk.errBlock, hk.blockIndex]
    using h

theorem latched_of_sessionKept (h : Latched s) : Latched t := by
  simpa only [Latched, hk.imageLen, hk.blockCount, hk.allocSize] using h

theorem indexFits_of_sessionKept (h : IndexFits s) : IndexFits t := by
  simpa only [IndexFits, point_eq_of_sessionKept hk, hk.blockIndex, hk.blockCount] using h

theorem framesBegun_eq_of_sessionKept : framesBegun t = framesBegun s := by
  simp only [framesBegun, point_eq_of_sessionKept hk, hk.blockIndex, hk.blockCount]

theorem payloadNow_eq_of_sessionKept : payloadNow t = payloadNow s := by
  simp only [payloadNow, hk.state, hk.blockIndex]

theorem cmdNow_eq_of_sessionKept : cmdNow t = cmdNow s := by
  simp only [cmdNow, hk.state, hk.blockIndex, hk.blockCount]

theorem payload_size_eq_of_sessionKept (p : Payload) : p.size t = p.size s := by
  cases p <;> simp only [Payload.size, hk.imageLen]

end

/-- The part of the invariant that the emission of a frame does not touch, of a session under way. -/
structure SessionInv (s : State) : Prop where
  underWay : s.state.inSession = true
  memory : s.image.wf = true
  errors : ErrorsFit s
  latched : Latched s
  index : IndexFits s
  moves : ∀ i ∈ s.inputs, Input.delivered i = true

theorem point_eq_of_inSession {s : State} (h : s.state.inSession = true) : point s = s.state := by
  have hs : s.state ≠ .failed := by intro hf; simp [hf, UploadState.inSession] at h
  simp [point, hs]

theorem started_of_inSession {s : State} (h : s.state.inSession = true) : Started s := by
  obtain hs | hs := inSession_iff.1 h <;> simp [Started, point, hs]

theorem Inv.session {s : State} (hi : Inv s) (h : s.state.inSession = true) : SessionInv s :=
  ⟨h, hi.memory, hi.errors, hi.latched (started_of_inSession h), hi.index, hi.moves⟩

/-- In a session under way only the counter and the serializer are left to check. -/
theorem inv_of_sessionKept {s t : State} (hs : SessionInv s) (hk : SessionKept s t) (hf : FramesCounted t)
    (hz : SerializerFits t) : Inv t where
  memory := by rw [hk.image]; exact hs.memory
  errors := errorsFit_of_sessionKept hk hs.errors
  latched := fun _ => latched_of_sessionKept hk hs.latched
  unstarted := fun h => absurd (started_of_inSession (by rw [hk.state]; exact hs.underWay)) h
  index := indexFits_of_sessionKept hk hs.index
  frames := hf
  serializer := hz
  moves := by rw [hk.inputs]; exact hs.moves

/-- The window is open exactly when `ack_wait` is set (R209, R216). -/
theorem Inv.ackWait_eq {s : State} (hi : Inv s) : s.ackWait = s.windowOpen := by
  obtain ⟨hw, -⟩ := hi.serializer
  exact hw

/-- A frame in emission has a session under way (R218). -/
theorem Inv.inSession_of_emitting {s : State} (hi : Inv s) (h : s.serPhase ≠ .idle) : s.state.inSession = true := by
  obtain ⟨-, hp, -⟩ := hi.serializer
  exact (hp h).1

theorem Inv.lastFcs_bit_seven {s : State} (hi : Inv s) : s.lastFcs.getLsbD 7 = false := by
  obtain ⟨-, -, -, -, -, -, -, -, -, hf⟩ := hi.serializer
  exact hf

theorem Inv.ackWait_eq_false {s : State} (hi : Inv s) (h : s.state.inSession = false) : s.ackWait = false := by
  rw [hi.ackWait_eq, State.windowOpen, h, Bool.false_and]

theorem Inv.serPhase_eq_idle {s : State} (hi : Inv s) (h : s.state.inSession = false) : s.serPhase = .idle := by
  by_contra hp
  simp [hi.inSession_of_emitting hp] at h

/-- Frames are far fewer than FRAMES_SENT can count (R36). -/
theorem framesBegun_lt (s : State) : framesBegun s < 2 ^ 25 := by
  have hb := s.blockIndex.isLt
  have hc := s.blockCount.isLt
  unfold framesBegun
  split <;> omega

end Sys2Proof.Safety
end

section
/-! EMIT_FRAME from a session that is ready for its next frame. -/

namespace Sys2Proof.Safety

open Sys2Proof.Machine

/-- The session is at a frame that is not in emission and not counted yet, and no window is open: what the transitions
prepare before EMIT_FRAME (R170, R174, R176). -/
structure ReadyToEmit (s : State) : Prop where
  session : SessionInv s
  frames : s.framesSent.toNat + 1 = framesBegun s
  ackWait : s.ackWait = false
  lastFcs : s.lastFcs.getLsbD 7 = false

theorem toNat_payload_size (s : State) (p : Payload) : (BitVec.ofNat 16 (p.size s)).toNat = p.size s := by
  have h := payload_size_le s p
  simp only [BitVec.toNat_ofNat]
  omega

theorem inv_of_emitFrame {lv : Level} {s t : State} (hr : ReadyToEmit s)
    (h : emitFrame lv (cmdNow s) (payloadNow s) s = .next t) : Inv t := by
  have hk := sessionKept_of_emitFrame h
  have hn := framesBegun_lt s
  have hf := hr.frames
  have hc := cmdNow_eq_of_sessionKept hk
  have hp := payloadNow_eq_of_sessionKept hk
  have hz := toNat_payload_size s (payloadNow s)
  have hzt := payload_size_eq_of_sessionKept hk (payloadNow s)
  have hb := framesBegun_eq_of_sessionKept hk
  have hu := hr.session.underWay
  refine inv_of_sessionKept hr.session hk ?_ ?_
  · cases lv with
    | transaction =>
      obtain ⟨hi, -, rfl⟩ := emitFrame_transaction_next.1 h
      rw [FramesCounted, hb]
      simp [hi]
      omega
    | cycle =>
      obtain ⟨hi, -, rfl⟩ := emitFrame_cycle_next.1 h
      rw [FramesCounted, hb]
      simpa using hf
  · cases lv with
    | transaction =>
      obtain ⟨hi, -, rfl⟩ := emitFrame_transaction_next.1 h
      have hfcs := checksum_bit_seven (frameBody (cmdNow s) ((payloadNow s).bytes s))
      simp [-BitVec.getLsbD_eq_getElem, ← payload_bytes_length, SerializerFits, State.windowOpen, hi, hu, hfcs]
    | cycle =>
      obtain ⟨hi, -, rfl⟩ := emitFrame_cycle_next.1 h
      rw [SerializerFits, hc, hp, hzt]
      simp [-BitVec.getLsbD_eq_getElem, State.windowOpen, hu, hr.ackWait, hr.lastFcs, crcInit, hz]

end Sys2Proof.Safety
end

section
/-! The transitions of the BlockUploader keep the invariant, at both levels (R170 to R184). -/

namespace Sys2Proof.Safety

open Sys2Proof.Machine

/-- Away from Failed the error fields hold their reset values and RELEASED tells Complete (R27 to R29, R35). -/
theorem errorsFit_iff_of_ne_failed {s : State} (h : s.state ≠ .failed) :
    ErrorsFit s ↔ s.errKind = .none ∧ s.failState = .idle ∧ s.errCode = 0#8 ∧ s.errBlock = 0#24 ∧
      s.released = s.state.terminal := by
  constructor
  · rintro ⟨hn, hz, -, -, -, -, hr⟩
    have hk := hn.2 h
    obtain ⟨hf, hc, hb⟩ := hz hk
    exact ⟨hk, hf, hc, hb, hr⟩
  · rintro ⟨hk, hf, hc, hb, hr⟩
    simp [ErrorsFit, hk, hf, hc, hb, hr, h]

/-- A serializer at rest fits a state with no session under way. -/
theorem serializerFits_of_ended {s t : State} (hs : SerializerFits s) (hp : s.serPhase = .idle)
    (ht : t.state.inSession = false) (ha : t.ackWait = false)
    (h : t.serPhase = s.serPhase ∧ t.serHeld = s.serHeld ∧ t.crcCnt = s.crcCnt ∧ t.crc = s.crc ∧
      t.lastFcs = s.lastFcs) : SerializerFits t := by
  obtain ⟨-, -, -, -, -, hheld, -, hcnt, hcrc, hfcs⟩ := hs
  obtain ⟨hp', hh', hn', hc', hl'⟩ := h
  have hc0 := hcnt (.inl hp)
  refine ⟨?_, ?_, ?_, ?_, ?_, ?_, ?_, ?_, ?_, ?_⟩
  · simp [ha, State.windowOpen, ht]
  · simp [hp', hp]
  · simp [hp', hp]
  · simp [hp', hp]
  · simp [hp', hp]
  · simpa [hp, hp', hh'] using hheld
  · simp [hn', hc0]
  · simp [hn', hc0]
  · simpa only [hn', hc'] using hcrc
  · rw [hl']; exact hfcs

/-- The error is one that its state can raise, with the information R240 and R243 give it. -/
def ErrorOf (s : State) : UploadError → Prop
  | .transportOpen => s.state = .idle
  | .ackTimeout i => s.state = .allocateSent ∧ i = 0#24 ∨ s.state = .uploading ∧ i = s.blockIndex
  | .allocation c => s.state = .allocateSent ∧ c ≠ 0#8
  | .transfer i c => s.state = .uploading ∧ i = s.blockIndex ∧ c ≠ 0#8

theorem ErrorOf.not_terminal {s : State} {e : UploadError} (h : ErrorOf s e) : s.state.terminal = false := by
  cases e with
  | transportOpen => rw [show s.state = .idle from h]; rfl
  | ackTimeout i => obtain ⟨hs, -⟩ | ⟨hs, -⟩ := h <;> rw [hs] <;> rfl
  | allocation c => rw [h.1]; rfl
  | transfer i c => rw [h.1]; rfl

theorem errorsFit_raise {s : State} {e : UploadError} (h : ErrorOf s e) : ErrorsFit (raise e s) := by
  cases e <;> simp [ErrorOf] at h <;>
    simp [ErrorsFit, UploadError.kind, UploadError.code, UploadError.block, UploadState.terminal, h]

/-- The error entry keeps the invariant: the session stays at its point, and its window is closed (R243, R178). -/
theorem inv_raise {s : State} {e : UploadError} (hi : Inv s) (hp : s.serPhase = .idle) (he : ErrorOf s e) :
    Inv (raise e (closeWindow s)) := by
  have hs : s.state ≠ .failed := by
    intro hf
    simpa [hf, UploadState.terminal] using he.not_terminal
  have hpt : point (raise e (closeWindow s)) = point s := by simp [point, hs]
  refine ⟨hi.memory, errorsFit_raise (s := closeWindow s) (by cases e <;> exact he), ?_, ?_, ?_, ?_, ?_, hi.moves⟩
  · simp only [Started, hpt]; exact hi.latched
  · simp only [Started, hpt]; exact hi.unstarted
  · simp only [IndexFits, hpt]; exact hi.index
  · simp only [FramesCounted, framesBegun, hpt]; exact hi.frames
  · exact serializerFits_of_ended hi.serializer hp rfl rfl ⟨rfl, rfl, rfl, rfl, rfl⟩

/-- The entry of Complete keeps the invariant, when all the blocks of the image have been sent (R175, R177). -/
theorem inv_complete {s : State} (hi : Inv s) (hw : s.windowOpen = true)
    (hall : s.state = .allocateSent ∧ s.blockCount = 0#24 ∨
      s.state = .uploading ∧ s.blockIndex.toNat + 1 = s.blockCount.toNat) : Inv (complete (closeWindow s)) := by
  obtain ⟨hs, hp⟩ := windowOpen_iff.1 hw
  obtain ⟨hidx, -⟩ := hi.index
  have hpt := point_eq_of_inSession hs
  have hf : s.state ≠ .failed := by intro hf; simp [hf, UploadState.inSession] at hs
  have hsent := hi.frames
  simp only [FramesCounted, framesBegun, hpt, hp] at hsent
  refine ⟨hi.memory, ?_, ?_, ?_, ?_, ?_, ?_, hi.moves⟩
  · obtain ⟨hk, hfs, hc, hb, -⟩ := (errorsFit_iff_of_ne_failed hf).1 hi.errors
    exact (errorsFit_iff_of_ne_failed (by simp)).2 ⟨hk, hfs, hc, hb, rfl⟩
  · exact fun _ => hi.latched (started_of_inSession hs)
  · exact fun h => absurd (.inr (.inr rfl)) h
  · refine ⟨nofun, nofun, fun _ => ?_⟩
    obtain ⟨ha, hbc⟩ | ⟨-, hbc⟩ := hall
    · exact .inl ⟨hbc, hidx (hpt.trans ha)⟩
    · exact .inr hbc
  · simp only [FramesCounted, framesBegun, point, complete_state, complete_framesSent, complete_blockCount,
      complete_serPhase, closeWindow_framesSent, closeWindow_serPhase, closeWindow_blockCount, hp]
    obtain ⟨ha, hbc⟩ | ⟨hu, hbc⟩ := hall
    · simp [ha, hbc] at hsent ⊢; exact hsent
    · simp [hu] at hsent ⊢; omega
  · exact serializerFits_of_ended hi.serializer hp rfl rfl ⟨rfl, rfl, rfl, rfl, rfl⟩

theorem closeWindow_eq_self {s : State} (h : s.ackWait = false) : closeWindow s = s := by
  rw [closeWindow, ← h]

/-- What START latches fits its registers up to MAX_IMAGE_LEN (R163, R170). -/
theorem latched_latch {s : State} (h : s.imageLen.toNat ≤ Config.maxImageLen) : Latched (latch s) := by
  simp only [Config.maxImageLen] at h
  refine ⟨h, ?_, ?_⟩ <;> simp [allocSizeOf, blockCountOf] <;> omega

theorem readyToEmit_start {s : State} (hi : Inv s) (hs : s.state = .idle)
    (hl : s.imageLen.toNat ≤ Config.maxImageLen) : ReadyToEmit (moveTo .allocateSent (latch s)) where
  session := {
    underWay := rfl
    memory := hi.memory
    errors := by
      obtain ⟨hk, hf, hc, hb, hr⟩ := (errorsFit_iff_of_ne_failed (by simp [hs])).1 hi.errors
      rw [hs] at hr
      exact (errorsFit_iff_of_ne_failed (by simp)).2 ⟨hk, hf, hc, hb, hr⟩
    latched := latched_latch hl
    index := ⟨fun _ => rfl, nofun, nofun⟩
    moves := hi.moves }
  frames := rfl
  ackWait := hi.ackWait_eq_false (by rw [hs]; rfl)
  lastFcs := hi.lastFcs_bit_seven

/-- START keeps the invariant (R170 to R173). -/
theorem inv_startSession {lv : Level} {s t : State} (hi : Inv s) (h : startSession lv s = .next t) : Inv t := by
  obtain ⟨-, rfl⟩ | ⟨hs, -, -, rfl⟩ | ⟨hs, hl, -, u, hu, rfl⟩ := startSession_next h
  · exact hi
  · have hn : s.state.inSession = false := by rw [hs]; rfl
    have hr := inv_raise hi (hi.serPhase_eq_idle hn) (e := .transportOpen) hs
    rwa [closeWindow_eq_self (hi.ackWait_eq_false hn)] at hr
  · exact inv_of_emitFrame (readyToEmit_start hi hs hl) (emitFrame_moveTo .allocateSent hu)

/-- The block that a success acknowledgment asks for: block 0 for the allocation's, else the next one (R174, R176). -/
theorem readyToEmit_block {s : State} {i : BlockNum} (hi : Inv s) (hw : s.windowOpen = true)
    (hb : i.toNat < s.blockCount.toNat)
    (hn : s.state = .allocateSent ∧ i = 0#24 ∨ s.state = .uploading ∧ i.toNat = s.blockIndex.toNat + 1) :
    ReadyToEmit (moveTo .uploading (atBlock i (closeWindow s))) where
  session := {
    underWay := rfl
    memory := hi.memory
    errors := by
      obtain ⟨hs, -⟩ := windowOpen_iff.1 hw
      have hf : s.state ≠ .failed ∧ s.state.terminal = false := by
        obtain hs | hs := inSession_iff.1 hs <;> simp [hs, UploadState.terminal]
      obtain ⟨hk, hfs, hc, hb, hr⟩ := (errorsFit_iff_of_ne_failed hf.1).1 hi.errors
      exact (errorsFit_iff_of_ne_failed (by simp)).2 ⟨hk, hfs, hc, hb, hr.trans hf.2⟩
    latched := hi.latched (started_of_inSession (windowOpen_iff.1 hw).1)
    index := ⟨nofun, fun _ => hb, nofun⟩
    moves := hi.moves }
  frames := by
    obtain ⟨hs, hp⟩ := windowOpen_iff.1 hw
    have hf := hi.frames
    simp only [FramesCounted, framesBegun, point_eq_of_inSession hs, hp] at hf
    obtain ⟨ha, rfl⟩ | ⟨hu, hnext⟩ := hn
    · simp [ha] at hf
      simp [framesBegun, point, hf]
    · simp [hu] at hf
      simp [framesBegun, point, hf, hnext]
  ackWait := rfl
  lastFcs := hi.lastFcs_bit_seven

theorem inv_onSuccess {lv : Level} {s t : State} (hi : Inv s) (hw : s.windowOpen = true)
    (h : onSuccess lv (closeWindow s) = .next t) : Inv t := by
  obtain ⟨hs, -⟩ | ⟨hs, hb, rfl⟩ | ⟨hs, hb, u, hu, rfl⟩ | ⟨hs, hb, hu⟩ | ⟨hs, hb, rfl⟩ := onSuccess_next h
  · simp [(windowOpen_iff.1 hw).1] at hs
  · exact inv_complete hi hw (.inl ⟨hs, hb⟩)
  · have hpos : (0#24).toNat < s.blockCount.toNat := by
      simp only [closeWindow_blockCount] at hb
      bv_omega
    exact inv_of_emitFrame (readyToEmit_block hi hw hpos (.inl ⟨hs, rfl⟩)) (emitFrame_moveTo .uploading hu)
  · simp only [closeWindow_state, closeWindow_blockIndex, closeWindow_blockCount] at hs hb hu
    have hn : (s.blockIndex + 1#24).toNat = s.blockIndex.toNat + 1 := by
      have := s.blockCount.isLt
      simp only [BitVec.toNat_add, BitVec.toNat_ofNat]
      omega
    have hr := readyToEmit_block hi hw (hn ▸ hb) (.inr ⟨hs, hn⟩)
    have hm := emitFrame_moveTo .uploading hu
    rw [← hn] at hm
    have hts : moveTo .uploading t = t := by
      rw [moveTo, ← show t.state = .uploading from (sessionKept_of_emitFrame hu).state.trans hs]
    exact hts ▸ inv_of_emitFrame hr hm
  · exact inv_complete hi hw (.inr ⟨hs, hb⟩)

/-- The event of an open window keeps the invariant, whatever it is (R174 to R181). -/
theorem inv_takeEvent {lv : Level} {r : AckResponse} {s t : State} (hi : Inv s) (hw : s.windowOpen = true)
    (h : takeEvent lv r s = .next t) : Inv t := by
  obtain ⟨hs, hp⟩ := windowOpen_iff.1 hw
  obtain ⟨-, h⟩ | ⟨-, h⟩ | ⟨c, -, hc, h⟩ := takeEvent_next h
  · obtain ⟨hn, -⟩ | ⟨ha, rfl⟩ | ⟨hu, rfl⟩ := onTimeout_next h
    · simp [hs] at hn
    · exact inv_raise hi hp (.inl ⟨ha, rfl⟩)
    · exact inv_raise hi hp (.inr ⟨hu, rfl⟩)
  · exact inv_onSuccess hi hw h
  · obtain ⟨hn, -⟩ | ⟨ha, rfl⟩ | ⟨hu, rfl⟩ := onErrorCode_next h
    · simp [hs] at hn
    · exact inv_raise hi hp ⟨ha, hc⟩
    · exact inv_raise hi hp ⟨hu, rfl, hc⟩

theorem inv_linkEvent {r : AckResponse} {s t : State} (hi : Inv s) (h : linkEvent r s = .next t) : Inv t := by
  obtain ⟨-, rfl⟩ | ⟨hw, h⟩ := linkEvent_next h
  · exact hi
  · exact inv_takeEvent hi hw h

end Sys2Proof.Safety
end

section
/-! The serializer and the checksum unit keep the invariant (R203, R206 to R214). -/

namespace Sys2Proof.Safety

open Sys2Proof.Machine

/-- What the invariant says of the serializer and the checksum unit by themselves: the position in the frame, the held
byte, the cycles left, and bit 7 of the checksums (R117, R203, R209 to R214). -/
structure EmissionFits (s : State) : Prop where
  header : s.serPhase = .sof ∨ s.serPhase = .cmd ∨ s.serPhase = .lenLo ∨ s.serPhase = .lenHi → s.serPos = 0#16
  payload : s.serPhase = .payload → s.serPos.toNat < s.serLen.toNat
  trailer : s.serPhase = .fcs ∨ s.serPhase = .eof → s.serPos = s.serLen
  held : s.serHeld.isSome = true → s.serPhase = .payload ∧ s.serSrc = .image
  count : s.crcCnt.toNat ≤ 8
  rest : s.serPhase = .idle ∨ s.serPhase = .sof ∨ s.serPhase = .eof → s.crcCnt = 0#4
  crc : s.crcCnt = 0#4 → s.crc.getLsbD 7 = false
  lastFcs : s.lastFcs.getLsbD 7 = false

theorem Inv.emission {s : State} (hi : Inv s) : EmissionFits s := by
  obtain ⟨-, -, header, payload, trailer, held, count, rest, crc, lastFcs⟩ := hi.serializer
  exact ⟨header, payload, trailer, held, count, rest, crc, lastFcs⟩

theorem Inv.serHeld_eq_none {s : State} (hi : Inv s) (h : s.serPhase ≠ .payload) : s.serHeld = none := by
  by_contra hh
  exact h (hi.emission.held (Option.isSome_iff_ne_none.2 hh)).1

/-- `t` is still at the frame in emission in `s`: its parameters stay (R210). -/
structure SameEmission (s t : State) : Prop where
  emitting : t.serPhase ≠ .idle
  framesSent : t.framesSent = s.framesSent
  ackWait : t.ackWait = s.ackWait
  serCmd : t.serCmd = s.serCmd
  serLen : t.serLen = s.serLen
  serSrc : t.serSrc = s.serSrc
  serBase : t.serBase = s.serBase

/-- While a frame is in emission only the serializer's progress is left to check. -/
theorem inv_of_sameEmission {s t : State} (hi : Inv s) (hn : s.serPhase ≠ .idle) (hk : SessionKept s t)
    (hp : SameEmission s t) (he : EmissionFits t) : Inv t := by
  have hin := hi.inSession_of_emitting hn
  have hf := hi.frames
  obtain ⟨hw, hpar, -⟩ := hi.serializer
  obtain ⟨-, hcmd, hlen, hsrc, hbase⟩ := hpar hn
  refine inv_of_sessionKept (hi.session hin) hk ?_
    ⟨?_, fun _ => ⟨?_, ?_, ?_, ?_, ?_⟩, he.header, he.payload, he.trailer, he.held, he.count, he.rest, he.crc,
      he.lastFcs⟩
  · simpa only [FramesCounted, framesBegun_eq_of_sessionKept hk, hp.framesSent, if_neg hp.emitting, if_neg hn] using hf
  · rw [hp.ackWait, hw, State.windowOpen, State.windowOpen, beq_false_of_ne hn, beq_false_of_ne hp.emitting,
      Bool.and_false, Bool.and_false]
  · rw [hk.state, hin]
  · rw [hp.serCmd, hcmd, cmdNow_eq_of_sessionKept hk]
  · rw [hp.serLen, hlen, payloadNow_eq_of_sessionKept hk, payload_size_eq_of_sessionKept hk]
  · rw [hp.serSrc, hsrc, payloadNow_eq_of_sessionKept hk]
  · rw [hp.serBase, hbase, payloadNow_eq_of_sessionKept hk]

theorem serPhase_ne_idle_of_txByte? {s : State} {b : Byte} (h : s.txByte? = some b) : s.serPhase ≠ .idle := by
  intro hp
  simp [State.txByte?, hp] at h

/-- A byte is presented only while the checksum unit is at rest (R211 to R214). -/
theorem Inv.crcCnt_eq_zero_of_txByte? {s : State} {b : Byte} (hi : Inv s) (h : s.txByte? = some b) :
    s.crcCnt = 0#4 := by
  have hrest := hi.emission.rest
  cases hp : s.serPhase <;> simp [State.txByte?, hp, State.crcBusy] at h
  case sof => exact hrest (.inr (.inl hp))
  case eof => exact hrest (.inr (.inr hp))
  all_goals exact h.1

/-- With the checksum unit at rest a byte is loaded into it (R203). -/
theorem crcCycle_load {s : State} (b : Byte) (h : s.crcCnt = 0#4) :
    crcCycle false (some b) s = .next { s with crc := s.crc ^^^ b, crcCnt := 8#4 } := by
  simp [crcCycle, State.crcBusy, h]

/-- The end of the frame: it is counted and its window opens (R211, R216). -/
theorem inv_serTransfer_eof {b : Byte} {s t : State} (hi : Inv s) (hp : s.serPhase = .eof)
    (h : serTransfer b s = .next t) : Inv t := by
  have hk := sessionKept_of_serTransfer h
  have hn : s.serPhase ≠ .idle := by simp [hp]
  have hin := hi.inSession_of_emitting hn
  have he := hi.emission
  have hc := he.rest (.inr (.inr hp))
  have hf := hi.frames
  have hlt := framesBegun_lt s
  have hb := framesBegun_eq_of_sessionKept hk
  simp only [serTransfer, hp] at h
  rw [crcCycle_of_not_busy (by exact hc)] at h
  cases h
  refine inv_of_sessionKept (hi.session hin) hk ?_ ⟨?_, nofun, nofun, nofun, nofun, ?_, ?_, ?_, ?_, ?_⟩
  · simp only [FramesCounted, hn, if_false] at hf
    rw [FramesCounted, hb]
    simp
    omega
  · simp [State.windowOpen, hin]
  · simp [hi.serHeld_eq_none (by simp [hp] : s.serPhase ≠ .payload)]
  · exact he.count
  · exact fun _ => hc
  · exact he.crc
  · exact he.lastFcs

/-- The transfer of a byte keeps the invariant (R206, R211 to R214). -/
theorem inv_serTransfer {b : Byte} {s t : State} (hi : Inv s) (hb : s.txByte? = some b)
    (h : serTransfer b s = .next t) : Inv t := by
  have hn := serPhase_ne_idle_of_txByte? hb
  have hk := sessionKept_of_serTransfer h
  have hc := hi.crcCnt_eq_zero_of_txByte? hb
  have he := hi.emission
  have htop := he.crc hc
  have hfcs := he.lastFcs
  cases hp : s.serPhase with
  | idle => exact absurd hp hn
  | eof => exact inv_serTransfer_eof hi hp h
  | sof =>
    simp only [serTransfer, hp] at h
    rw [crcCycle_of_not_busy (by exact hc)] at h
    cases h
    refine inv_of_sameEmission hi hn hk (by constructor <;> simp) ?_
    constructor <;> simp [-BitVec.getLsbD_eq_getElem, hc, he.header, hp, hi.serHeld_eq_none, htop, hfcs]
  | cmd | lenLo =>
    simp only [serTransfer, hp] at h
    rw [crcCycle_load b (by exact hc)] at h
    cases h
    refine inv_of_sameEmission hi hn hk (by constructor <;> simp) ?_
    constructor <;> simp [-BitVec.getLsbD_eq_getElem, he.header, hp, hi.serHeld_eq_none, hfcs]
  | lenHi =>
    simp only [serTransfer, hp] at h
    rw [crcCycle_load b (by exact hc)] at h
    by_cases hl : s.serLen = 0#16 <;> simp only [hl, if_true, if_false] at h <;> cases h
    · refine inv_of_sameEmission hi hn hk (by constructor <;> simp) ?_
      constructor <;> simp [-BitVec.getLsbD_eq_getElem, he.header, hp, hi.serHeld_eq_none, hfcs, hl]
    · refine inv_of_sameEmission hi hn hk (by constructor <;> simp) ?_
      constructor <;> simp [-BitVec.getLsbD_eq_getElem, he.header, hp, hi.serHeld_eq_none, hfcs]
      bv_omega
  | payload =>
    simp only [serTransfer, hp] at h
    rw [crcCycle_load b (by exact hc)] at h
    have hlt := he.payload hp
    by_cases hl : s.serPos + 1#16 = s.serLen <;> simp only [hl, if_true, if_false] at h <;> cases h
    · refine inv_of_sameEmission hi hn hk (by constructor <;> simp) ?_
      constructor <;> simp [-BitVec.getLsbD_eq_getElem, hfcs]
    · refine inv_of_sameEmission hi hn hk (by constructor <;> simp) ?_
      constructor <;> simp [-BitVec.getLsbD_eq_getElem, hfcs]
      bv_omega
  | fcs =>
    simp only [serTransfer, hp] at h
    rw [crcCycle_of_not_busy (by exact hc)] at h
    cases h
    refine inv_of_sameEmission hi hn hk (by constructor <;> simp) ?_
    constructor <;> simp [-BitVec.getLsbD_eq_getElem, hc, he.trailer, hp, hi.serHeld_eq_none, htop]

/-- The image port's byte is held only in a payload from the image (R207, R213). -/
theorem inv_imageAnswer {s t : State} (hi : Inv s) (hq : s.imgReq = true) (h : imageAnswer s = .next t) : Inv t := by
  obtain ⟨-, rfl⟩ := imageAnswer_next h
  simp only [State.imgReq, Bool.and_eq_true, beq_iff_eq] at hq
  obtain ⟨⟨hp, hsrc⟩, -⟩ := hq
  have he := hi.emission
  have hn : s.serPhase ≠ .idle := by simp [hp]
  exact inv_of_sameEmission hi hn (by constructor <;> rfl) ⟨hn, rfl, rfl, rfl, rfl, rfl, rfl⟩
    ⟨he.header, he.payload, he.trailer, fun _ => ⟨hp, hsrc⟩, he.count, he.rest, he.crc, he.lastFcs⟩

/-- With nothing to load the checksum unit counts down, to a checksum whose bit 7 is 0 (R117, R203). -/
theorem inv_crcCycle_none {s t : State} (hi : Inv s) (h : crcCycle false none s = .next t) : Inv t := by
  have hk := sessionKept_of_crcCycle h
  have he := hi.emission
  obtain ⟨hf, -⟩ | ⟨-, b, hb, -⟩ | ⟨-, -, hbusy, rfl⟩ | ⟨-, -, -, rfl⟩ := crcCycle_next h
  · cases hf
  · cases hb
  · have hc : s.crcCnt ≠ 0#4 := by simpa [State.crcBusy] using hbusy
    have hn : s.serPhase ≠ .idle := fun hp => hc (he.rest (.inl hp))
    have hcount : (s.crcCnt - 1#4).toNat ≤ 8 := by
      have := he.count
      bv_omega
    exact inv_of_sameEmission hi hn hk ⟨hn, rfl, rfl, rfl, rfl, rfl, rfl⟩
      ⟨he.header, he.payload, he.trailer, he.held, hcount, fun hp => absurd (he.rest hp) hc,
        fun _ => crcBit_bit_seven s.crc, he.lastFcs⟩
  · exact hi

theorem inv_serWait {ack : Bool} {s t : State} (hi : Inv s) (h : serWait ack s = .next t) : Inv t := by
  obtain ⟨u, ⟨hq, hu⟩ | ⟨-, rfl⟩, ht⟩ := serWait_next h
  · exact inv_crcCycle_none (inv_imageAnswer hi (Bool.and_eq_true_iff.1 hq).1 hu) ht
  · exact inv_crcCycle_none hi ht

/-- A cycle of the serializer and the checksum unit keeps the invariant, whatever the link and the memory answer. -/
theorem inv_serCycle {ready ack : Bool} {s t : State} (hi : Inv s) (h : serCycle ready ack s = .next t) : Inv t := by
  obtain ⟨b, hb, -, h⟩ | ⟨-, h⟩ := serCycle_next h
  · exact inv_serTransfer hi hb h
  · exact inv_serWait hi h

end Sys2Proof.Safety
end

section
/-! Every move keeps the invariant: an operation, a clock cycle, a load of the memory, the link's level (R15, R200). -/

namespace Sys2Proof.Safety

open Sys2Proof.Machine

/-- No rule of the invariant reads the level of `link_ready` (R68). -/
theorem Inv.setLinkReady {s : State} (hi : Inv s) (level : Bool) : Inv { s with linkReady := level } :=
  ⟨hi.memory, hi.errors, hi.latched, hi.unstarted, hi.index, hi.frames, hi.serializer, hi.moves⟩

/-- No rule of the invariant reads the read port (R65). -/
theorem Inv.setRegRdata {s : State} (hi : Inv s) (r : Option Word) : Inv { s with regRdata := r } :=
  ⟨hi.memory, hi.errors, hi.latched, hi.unstarted, hi.index, hi.frames, hi.serializer, hi.moves⟩

theorem Inv.setImage {s : State} (hi : Inv s) {m : Memory} (hm : m.wf = true) : Inv { s with image := m } :=
  ⟨hm, hi.errors, hi.latched, hi.unstarted, hi.index, hi.frames, hi.serializer, hi.moves⟩

/-- In Idle IMAGE_LEN is free: nothing is latched and no frame is in emission (R185). -/
theorem Inv.setImageLen {s : State} (hi : Inv s) (hs : s.state = .idle) (len : Word) :
    Inv { s with imageLen := len } where
  memory := hi.memory
  errors := hi.errors
  latched := by intro h; simp [Started, point, hs] at h
  unstarted := hi.unstarted
  index := hi.index
  frames := hi.frames
  serializer :=
    have hn : s.state.inSession = false := by rw [hs]; rfl
    serializerFits_of_ended hi.serializer (hi.serPhase_eq_idle hn) hn (hi.ackWait_eq_false hn)
      ⟨rfl, rfl, rfl, rfl, rfl⟩
  moves := hi.moves

/-- The next move leaves the list; those still to come are moves of the host and the link as before. -/
theorem Inv.takeInput {s : State} {i : Input} {rest : List Input} (hi : Inv s) (h : s.inputs = i :: rest) :
    Inv (takeInput rest s) :=
  ⟨hi.memory, hi.errors, hi.latched, hi.unstarted, hi.index, hi.frames, hi.serializer,
    fun j hj => hi.moves j (h ▸ List.mem_cons_of_mem i hj)⟩

/-- Every register at its reset value meets the invariant, whatever the memory and the moves to come (R42, R43). -/
theorem inv_resetFrom {s : State} (hm : s.image.wf = true) (hmv : ∀ i ∈ s.inputs, Input.delivered i = true) :
    Inv (resetFrom s) where
  memory := hm
  errors := by simp [ErrorsFit, UploadState.terminal]
  latched := by simp [Started, point]
  unstarted := fun _ => ⟨rfl, rfl, rfl, rfl, rfl, rfl⟩
  index := ⟨nofun, nofun, nofun⟩
  frames := rfl
  serializer := by simp [SerializerFits, State.windowOpen, UploadState.inSession]
  moves := hmv

/-- Every operation but the frames' own, which nobody delivers (R91), keeps the invariant. -/
theorem inv_exec {i : Instr} {s t : State} (hi : Inv s) (hd : isAccessOrEvent i = true ∨ i = .reset)
    (h : exec i s = .next t) : Inv t := by
  cases i with
  | frameAllocateMemory => simp [isAccessOrEvent] at hd
  | frameBinaryBlock => simp [isAccessOrEvent] at hd
  | frameBinaryBlockLast len => simp [isAccessOrEvent] at hd
  | ackSuccess => exact inv_linkEvent hi h
  | ackError code => exact inv_linkEvent hi h
  | ackTimeout => exact inv_linkEvent hi h
  | hostStart ignored => exact inv_startSession hi h
  | hostCtrlNop ignored => cases h; exact hi
  | hostWriteImageLen len =>
    obtain ⟨hs, rfl⟩ | ⟨-, rfl⟩ := hostWriteImageLen_next h
    · exact hi.setImageLen hs len
    · exact hi
  | hostWriteIgnored off data => cases h; exact hi
  | hostRead off =>
    obtain ⟨-, rfl⟩ := hostRead_next h
    exact hi.setRegRdata _
  | reset => cases h; exact inv_resetFrom hi.memory hi.moves

/-- What the operation of the register port does in a cycle: START starts, IMAGE_LEN is stored in Idle, a read answers
at the read port, and nothing else has an effect (R202, R218). -/
theorem hostOpCycle_next {i : Instr} {s t : State} (h : hostOpCycle i s = .next t) :
    startSession .cycle s = .next t ∨ (s.state = .idle ∧ ∃ len, t = { s with imageLen := len }) ∨
    (∃ r, t = { s with regRdata := r }) ∨ t = s := by
  cases i with
  | hostStart ignored => exact .inl h
  | hostWriteImageLen len =>
    obtain ⟨hs, rfl⟩ | ⟨-, rfl⟩ := hostWriteImageLen_next h
    · exact .inr (.inl ⟨hs, len, rfl⟩)
    · exact .inr (.inr (.inr rfl))
  | hostRead off =>
    obtain ⟨-, rfl⟩ := hostRead_next h
    exact .inr (.inr (.inl ⟨_, rfl⟩))
  | _ => cases h; exact .inr (.inr (.inr rfl))

theorem inv_hostCycle {p : PortsIn} {s t : State} (hi : Inv s) (h : hostCycle p s = .next t) : Inv t := by
  obtain ⟨-, rfl⟩ | ⟨-, i, -, h⟩ := hostCycle_next h
  · exact hi
  · obtain h | ⟨hs, len, rfl⟩ | ⟨r, rfl⟩ | rfl := hostOpCycle_next h
    · exact inv_startSession hi h
    · exact hi.setImageLen hs len
    · exact hi.setRegRdata r
    · exact hi

theorem inv_linkCycle {p : PortsIn} {s t : State} (hi : Inv s) (h : linkCycle p s = .next t) : Inv t := by
  obtain rfl | ⟨ha, r, -, h⟩ := linkCycle_next h
  · exact hi
  · exact inv_takeEvent hi (hi.ackWait_eq ▸ ha) h

/-- A clock cycle keeps the invariant, whatever its ports carry: each of its parts does (R200, R249). -/
theorem inv_cycle {p : PortsIn} {s t : State} (hi : Inv s) (h : cycle p s = .next t) : Inv t := by
  obtain ⟨-, rfl⟩ | ⟨-, u, v, hu, hv, ⟨-, rfl⟩ | ⟨-, ht⟩⟩ := cycle_next h
  · exact inv_resetFrom hi.memory hi.moves
  · exact inv_linkCycle (inv_hostCycle (hi.setLinkReady _) hu) hv
  · exact inv_serCycle (inv_linkCycle (inv_hostCycle (hi.setLinkReady _) hu) hv) ht

/-- A word that the host or the link delivers is no frame's (R91). -/
theorem isAccessOrEvent_of_decode {w : OpWord} {i : Instr} (hd : Input.delivered (.op w) = true)
    (h : decode w = .ok i) : isAccessOrEvent i = true ∨ i = .reset := by
  cases w with
  | frame header => cases hd
  | rxev event =>
    simp only [decode, decodeRxev] at h
    split_ifs at h <;> cases h <;> exact .inl rfl
  | hostop op =>
    simp only [decode, decodeHostop] at h
    split_ifs at h <;> cases h <;> exact .inl rfl
  | pin rst =>
    simp only [decode, decodePin] at h
    split_ifs at h
    cases h
    exact .inr rfl

theorem inv_runWord {w : OpWord} {s t : State} (hi : Inv s) (hd : Input.delivered (.op w) = true)
    (h : runWord w s = .next t) : Inv t := by
  obtain ⟨i, hw, h⟩ := runWord_next h
  exact inv_exec hi (isAccessOrEvent_of_decode hd hw) h

/-- Every move of the host or the link keeps the invariant. -/
theorem inv_runInput {i : Input} {s t : State} (hi : Inv s) (hd : Input.delivered i = true)
    (h : runInput i s = .next t) : Inv t := by
  cases i with
  | op w => exact inv_runWord hi hd h
  | rx raw => exact inv_runWord hi rfl h
  | access write width offset data =>
    obtain ⟨w, -, h⟩ := runAccess_next h
    exact inv_runWord hi rfl h
  | linkReady level => cases h; exact hi.setLinkReady level
  | loadImage addr bytes =>
    obtain ⟨-, hend, rfl⟩ := hostLoad_next h
    exact hi.setImage (memLoad_wf hend hi.memory)
  | clock ports => exact inv_cycle hi h

theorem inv_step {s t : State} (hi : Inv s) (h : step s = .next t) : Inv t := by
  obtain ⟨-, rfl⟩ | ⟨i, rest, hs, h⟩ := step_next h
  · exact hi
  · exact inv_runInput (hi.takeInput hs) (hi.moves i (hs ▸ List.mem_cons_self)) h

end Sys2Proof.Safety

namespace Sys2Proof.Proofs

open Sys2Proof.Machine Sys2Proof.Safety

/-- Settles O50: each move of the host and the link keeps the invariant (`inv_runInput`), a clock cycle because its
three parts do. -/
theorem stepKeepsInvariant : Obligations.StepKeepsInvariant :=
  fun _ _ hi h => inv_step hi h

/-- State.reset is what a reset of itself leaves. -/
theorem resetFrom_reset : resetFrom State.reset = State.reset := rfl

/-- Settles O49: the registers at reset meet the invariant, and there is no session and no frame for the stream's
invariant to speak of. -/
theorem resetHasInvariants : Obligations.ResetHasInvariants :=
  ⟨resetFrom_reset ▸ inv_resetFrom reset_image_wf nofun, nofun, fun h => absurd rfl h, nofun⟩

end Sys2Proof.Proofs
end

section
/-! How STATE and the fields that report an ended session move: the moves of an operation and of a step that is no
reset, said once (R25, R27 to R29, R187). -/

namespace Sys2Proof.Safety

open Sys2Proof.Machine

/-- The four error fields of `t` are those of `s` (R27, R28, R35). -/
structure ErrorsKept (s t : State) : Prop where
  errKind : t.errKind = s.errKind
  failState : t.failState = s.failState
  errCode : t.errCode = s.errCode
  errBlock : t.errBlock = s.errBlock

/-- STATE, RELEASED and the error fields of `t` are those of `s`. -/
structure StatusKept (s t : State) : Prop extends ErrorsKept s t where
  state : t.state = s.state
  released : t.released = s.released

theorem StatusKept.refl (s : State) : StatusKept s s := ⟨⟨rfl, rfl, rfl, rfl⟩, rfl, rfl⟩

theorem statusKept_of_sessionKept {s t : State} (h : SessionKept s t) : StatusKept s t :=
  ⟨⟨h.errKind, h.failState, h.errCode, h.errBlock⟩, h.state, h.released⟩

theorem statusKept_closeWindow (s : State) : StatusKept s (closeWindow s) := ⟨⟨rfl, rfl, rfl, rfl⟩, rfl, rfl⟩

theorem ErrorsKept.trans {s t u : State} (h : ErrorsKept s t) (h' : ErrorsKept t u) : ErrorsKept s u :=
  ⟨h'.errKind.trans h.errKind, h'.failState.trans h.failState, h'.errCode.trans h.errCode,
    h'.errBlock.trans h.errBlock⟩

theorem statusKept_atBlock (i : BlockNum) (s : State) : StatusKept s (atBlock i s) := ⟨⟨rfl, rfl, rfl, rfl⟩, rfl, rfl⟩

/-- What a move other than a reset does to STATE, RELEASED and the error fields (R170 to R184). -/
inductive SessionMove (s t : State) : Prop
  /-- Nothing. -/
  | stays (h : StatusKept s t)
  /-- The first frame of a session, or the first block (R170, R174). -/
  | sends (h : s.state = .idle ∧ t.state = .allocateSent ∨ s.state = .allocateSent ∧ t.state = .uploading)
      (errors : ErrorsKept s t) (released : t.released = s.released)
  /-- The entry of Complete (R175, R177). -/
  | completes (origin : s.state.inSession = true) (state : t.state = .complete) (errors : ErrorsKept s t)
      (released : t.released = true)
  /-- The error entry (R243). -/
  | fails (origin : s.state.terminal = false) (state : t.state = .failed) (failState : t.failState = s.state)
      (released : t.released = true)

/-- A move counts from any state and to any state with the same status. -/
theorem SessionMove.congr {s s' t t' : State} (h : SessionMove s t) (hs : StatusKept s' s) (ht : StatusKept t t') :
    SessionMove s' t' := by
  have hss := hs.state
  obtain h | ⟨h, he, hr⟩ | ⟨hf, hst, he, hr⟩ | ⟨hf, hst, hfs, hr⟩ := h
  · exact .stays ⟨(hs.toErrorsKept.trans h.toErrorsKept).trans ht.toErrorsKept,
      ht.state.trans (h.state.trans hss), ht.released.trans (h.released.trans hs.released)⟩
  · exact .sends (by rwa [ht.state, ← hss]) ((hs.toErrorsKept.trans he).trans ht.toErrorsKept)
      (ht.released.trans (hr.trans hs.released))
  · exact .completes (hss ▸ hf) (ht.state.trans hst) ((hs.toErrorsKept.trans he).trans ht.toErrorsKept)
      (ht.released.trans hr)
  · exact .fails (hss ▸ hf) (ht.state.trans hst) (ht.failState.trans (hfs.trans hss)) (ht.released.trans hr)

theorem SessionMove.stateStep {s t : State} (h : SessionMove s t) : stateStep s.state t.state = true := by
  obtain h | ⟨⟨hs, ht⟩ | ⟨hs, ht⟩, -, -⟩ | ⟨hs, ht, -, -⟩ | ⟨hs, ht, -, -⟩ := h
  · simp [Safety.stateStep, h.state]
  · rw [hs, ht]; rfl
  · rw [hs, ht]; rfl
  · obtain hs | hs := inSession_iff.1 hs <;> rw [hs, ht] <;> rfl
  · rw [ht]
    cases hu : s.state <;> simp [hu, UploadState.terminal] at hs <;> rfl

theorem sessionMove_of_emitFrame {lv : Level} {cmd : Byte} {p : Payload} {s t : State}
    (h : emitFrame lv cmd p s = .next t) : SessionMove s t :=
  .stays (statusKept_of_sessionKept (sessionKept_of_emitFrame h))

theorem sessionMove_complete {s : State} (h : s.state.inSession = true) : SessionMove s (complete s) :=
  .completes h rfl ⟨rfl, rfl, rfl, rfl⟩ rfl

theorem sessionMove_raise {s : State} {e : UploadError} (h : s.state.terminal = false) : SessionMove s (raise e s) :=
  .fails h rfl rfl rfl

theorem sessionMove_startSession {lv : Level} {s t : State} (h : startSession lv s = .next t) : SessionMove s t := by
  obtain ⟨-, rfl⟩ | ⟨hs, -, -, rfl⟩ | ⟨hs, -, -, u, hu, rfl⟩ := startSession_next h
  · exact .stays (.refl t)
  · exact sessionMove_raise (by rw [hs]; rfl)
  · obtain ⟨he, -, hr⟩ := statusKept_of_sessionKept (sessionKept_of_emitFrame hu)
    exact .sends (.inl ⟨hs, rfl⟩) ⟨he.errKind, he.failState, he.errCode, he.errBlock⟩ hr

theorem sessionMove_onSuccess {lv : Level} {s t : State} (h : onSuccess lv s = .next t) : SessionMove s t := by
  obtain ⟨-, rfl⟩ | ⟨hs, -, rfl⟩ | ⟨hs, -, u, hu, rfl⟩ | ⟨-, -, hu⟩ | ⟨hs, -, rfl⟩ := onSuccess_next h
  · exact .stays (.refl t)
  · exact sessionMove_complete (inSession_iff.2 (.inl hs))
  · obtain ⟨he, -, hr⟩ := statusKept_of_sessionKept (sessionKept_of_emitFrame hu)
    exact .sends (.inr ⟨hs, rfl⟩) ⟨he.errKind, he.failState, he.errCode, he.errBlock⟩ hr
  · exact (sessionMove_of_emitFrame hu).congr (statusKept_atBlock _ s) (.refl t)
  · exact sessionMove_complete (inSession_iff.2 (.inr hs))

/-- A link event moves STATE by its transition, open window or not (R174 to R181). -/
theorem sessionMove_takeEvent {lv : Level} {r : AckResponse} {s t : State} (h : takeEvent lv r s = .next t) :
    SessionMove s t := by
  have hmove : SessionMove (closeWindow s) t := by
    obtain ⟨-, h⟩ | ⟨-, h⟩ | ⟨c, -, -, h⟩ := takeEvent_next h
    · obtain ⟨-, rfl⟩ | ⟨hs, rfl⟩ | ⟨hs, rfl⟩ := onTimeout_next h
      · exact .stays (.refl _)
      · exact sessionMove_raise (by rw [hs]; rfl)
      · exact sessionMove_raise (by rw [hs]; rfl)
    · exact sessionMove_onSuccess h
    · obtain ⟨-, rfl⟩ | ⟨hs, rfl⟩ | ⟨hs, rfl⟩ := onErrorCode_next h
      · exact .stays (.refl _)
      · exact sessionMove_raise (by rw [hs]; rfl)
      · exact sessionMove_raise (by rw [hs]; rfl)
  exact hmove.congr (statusKept_closeWindow s) (.refl t)

theorem sessionMove_linkEvent {r : AckResponse} {s t : State} (h : linkEvent r s = .next t) : SessionMove s t := by
  obtain ⟨-, rfl⟩ | ⟨-, h⟩ := linkEvent_next h
  · exact .stays (.refl t)
  · exact sessionMove_takeEvent h

/-- Every operation but RESET, in every state. -/
theorem sessionMove_exec {i : Instr} {s t : State} (hi : i ≠ .reset) (h : exec i s = .next t) : SessionMove s t := by
  cases i with
  | frameAllocateMemory =>
    obtain ⟨-, rfl⟩ | ⟨-, h⟩ := frameAllocateMemory_next h
    · exact .stays (.refl t)
    · exact sessionMove_of_emitFrame h
  | frameBinaryBlock =>
    obtain ⟨-, rfl⟩ | ⟨-, h⟩ := frameBinaryBlock_next h
    · exact .stays (.refl t)
    · exact sessionMove_of_emitFrame h
  | frameBinaryBlockLast len =>
    obtain rfl | ⟨-, -, h⟩ := frameBinaryBlockLast_next h
    · exact .stays (.refl t)
    · exact sessionMove_of_emitFrame h
  | ackSuccess => exact sessionMove_linkEvent h
  | ackError code => exact sessionMove_linkEvent h
  | ackTimeout => exact sessionMove_linkEvent h
  | hostStart ignored => exact sessionMove_startSession h
  | hostCtrlNop ignored => cases h; exact .stays (.refl s)
  | hostWriteImageLen len =>
    obtain ⟨-, rfl⟩ | ⟨-, rfl⟩ := hostWriteImageLen_next h <;> exact .stays ⟨⟨rfl, rfl, rfl, rfl⟩, rfl, rfl⟩
  | hostWriteIgnored off data => cases h; exact .stays (.refl s)
  | hostRead off =>
    obtain ⟨-, rfl⟩ := hostRead_next h
    exact .stays ⟨⟨rfl, rfl, rfl, rfl⟩, rfl, rfl⟩
  | reset => exact absurd rfl hi

/-! The same of a step. -/

/-- The register port moves STATE by START alone. -/
theorem sessionMove_hostCycle {p : PortsIn} {s t : State} (h : hostCycle p s = .next t) : SessionMove s t := by
  obtain ⟨-, rfl⟩ | ⟨-, i, -, h⟩ := hostCycle_next h
  · exact .stays (.refl t)
  · obtain h | ⟨-, len, rfl⟩ | ⟨r, rfl⟩ | rfl := hostOpCycle_next h
    · exact sessionMove_startSession h
    · exact .stays ⟨⟨rfl, rfl, rfl, rfl⟩, rfl, rfl⟩
    · exact .stays ⟨⟨rfl, rfl, rfl, rfl⟩, rfl, rfl⟩
    · exact .stays (.refl t)

/-- A START never opens the window in its own cycle, so the register port and the link never both move STATE (R216,
R218). -/
theorem statusKept_of_hostCycle {p : PortsIn} {s t : State} (hi : Inv s) (h : hostCycle p s = .next t)
    (ha : t.ackWait = true) : StatusKept s t := by
  obtain ⟨hs, hp⟩ := windowOpen_iff.1 ((inv_hostCycle hi h).ackWait_eq ▸ ha)
  obtain ⟨-, rfl⟩ | ⟨-, i, -, h⟩ := hostCycle_next h
  · exact .refl t
  · obtain h | ⟨-, len, rfl⟩ | ⟨r, rfl⟩ | rfl := hostOpCycle_next h
    · obtain ⟨-, rfl⟩ | ⟨-, -, -, rfl⟩ | ⟨-, -, -, u, hu, rfl⟩ := startSession_next h
      · exact .refl t
      · cases hs
      · obtain ⟨-, -, rfl⟩ := emitFrame_cycle_next.1 hu
        cases hp
    · exact ⟨⟨rfl, rfl, rfl, rfl⟩, rfl, rfl⟩
    · exact ⟨⟨rfl, rfl, rfl, rfl⟩, rfl, rfl⟩
    · exact .refl t

/-- A clock cycle without `rst`: START or a link event moves STATE, never both, and the serializer does not. -/
theorem sessionMove_cycle {p : PortsIn} {s t : State} (hi : Inv s) (hr : p.rst = false) (h : cycle p s = .next t) :
    SessionMove s t := by
  obtain ⟨hrst, -⟩ | ⟨-, u, v, hu, hv, ht⟩ := cycle_next h
  · simp [hr] at hrst
  · have hs : StatusKept s { s with linkReady := p.linkReady } := ⟨⟨rfl, rfl, rfl, rfl⟩, rfl, rfl⟩
    have hsv : SessionMove { s with linkReady := p.linkReady } v := by
      obtain rfl | ⟨ha, r, -, hv⟩ := linkCycle_next hv
      · exact sessionMove_hostCycle hu
      · exact (sessionMove_takeEvent hv).congr (statusKept_of_hostCycle (hi.setLinkReady _) hu ha) (.refl v)
    obtain ⟨-, rfl⟩ | ⟨-, ht⟩ := ht
    · exact hsv.congr hs (.refl t)
    · exact hsv.congr hs (statusKept_of_sessionKept (sessionKept_of_serCycle ht))

/-- The pin is the only word of RESET (R98). -/
theorem eq_pin_of_decode_reset {w : OpWord} (h : decode w = .ok .reset) : w = .pin 1#1 := by
  cases w with
  | frame header =>
    simp only [decode, decodeFrame] at h
    split_ifs at h <;> cases h
  | rxev event =>
    simp only [decode, decodeRxev] at h
    split_ifs at h <;> cases h
  | hostop op =>
    simp only [decode, decodeHostop] at h
    split_ifs at h <;> cases h
  | pin rst =>
    simp only [decode, decodePin] at h
    split_ifs at h with hr
    rw [hr]

theorem sessionMove_runWord {w : OpWord} {s t : State} (hw : w ≠ .pin 1#1) (h : runWord w s = .next t) :
    SessionMove s t := by
  obtain ⟨i, hd, h⟩ := runWord_next h
  refine sessionMove_exec ?_ h
  rintro rfl
  exact hw (eq_pin_of_decode_reset hd)

theorem sessionMove_runInput {i : Input} {s t : State} (hi : Inv s) (hr : isReset i = false)
    (h : runInput i s = .next t) : SessionMove s t := by
  cases i with
  | op w => exact sessionMove_runWord (by simpa [isReset] using hr) h
  | rx raw => exact sessionMove_runWord (w := .rxev (rxevOfRead raw)) nofun h
  | access write width offset data =>
    obtain ⟨w, -, h⟩ := runAccess_next h
    exact sessionMove_runWord (w := .hostop w) nofun h
  | linkReady level => cases h; exact .stays ⟨⟨rfl, rfl, rfl, rfl⟩, rfl, rfl⟩
  | loadImage addr bytes =>
    obtain ⟨-, -, rfl⟩ := hostLoad_next h
    exact .stays ⟨⟨rfl, rfl, rfl, rfl⟩, rfl, rfl⟩
  | clock ports => exact sessionMove_cycle hi hr h

/-- Every step that takes a move other than a reset, from every state of the invariant. -/
theorem sessionMove_step {s t : State} {i : Input} {rest : List Input} (hi : Inv s) (hs : s.inputs = i :: rest)
    (hr : isReset i = false) (h : step s = .next t) : SessionMove s t := by
  rw [step_of_inputs_cons hs] at h
  exact (sessionMove_runInput (hi.takeInput hs) hr h).congr ⟨⟨rfl, rfl, rfl, rfl⟩, rfl, rfl⟩ (.refl t)

end Sys2Proof.Safety

namespace Sys2Proof.Proofs

open Sys2Proof.Machine Sys2Proof.Safety

/-- Settles O35: what `SessionMove` allows, the next-state function lists. -/
theorem stateMovesByListedTransitions : Obligations.StateMovesByListedTransitions :=
  ⟨fun _ _ _ hi h => (sessionMove_exec hi h).stateStep,
    fun _ _ _ _ hi hs hr h => (sessionMove_step hi hs hr h).stateStep⟩

/-- Settles O37: of the moves of `SessionMove` only the error entry writes the error fields. -/
theorem errorFieldsWrittenOnFailure : Obligations.ErrorFieldsWrittenOnFailure := by
  intro s t i hi h
  obtain hk | ⟨-, he, -⟩ | ⟨-, -, he, -⟩ | ⟨hs, ht, hf, -⟩ := sessionMove_exec hi h
  · exact .inl ⟨hk.errKind, hk.failState, hk.errCode, hk.errBlock⟩
  · exact .inl ⟨he.errKind, he.failState, he.errCode, he.errBlock⟩
  · exact .inl ⟨he.errKind, he.failState, he.errCode, he.errBlock⟩
  · refine .inr ⟨?_, ht, hf⟩
    intro hsf
    simp [hsf, UploadState.terminal] at hs

end Sys2Proof.Proofs
end

section
/-! The register view (R22 to R38): what each offset reads, and the fields of STATUS. -/

namespace Sys2Proof.Machine

@[simp] theorem readReg_ctrl (s : State) : s.readReg 0x00#6 = 0#32 := rfl
@[simp] theorem readReg_status (s : State) : s.readReg 0x04#6 = s.statusWord := rfl
@[simp] theorem readReg_imageLen (s : State) : s.readReg 0x08#6 = s.imageLen := rfl
@[simp] theorem readReg_blockCount (s : State) : s.readReg 0x0C#6 = s.blockCount.setWidth 32 := rfl
@[simp] theorem readReg_allocSize (s : State) : s.readReg 0x10#6 = s.allocSize := rfl
@[simp] theorem readReg_blockIndex (s : State) : s.readReg 0x14#6 = s.blockIndex.setWidth 32 := rfl
@[simp] theorem readReg_errCode (s : State) : s.readReg 0x18#6 = s.errCode.setWidth 32 := rfl
@[simp] theorem readReg_errBlock (s : State) : s.readReg 0x1C#6 = s.errBlock.setWidth 32 := rfl
@[simp] theorem readReg_framesSent (s : State) : s.readReg 0x20#6 = s.framesSent := rfl
@[simp] theorem readReg_lastFcs (s : State) : s.readReg 0x24#6 = s.lastFcs.setWidth 32 := rfl

/-- The reserved offsets read 0 (R38). -/
theorem readReg_reserved (s : State) {off : BitVec 6} (h : 0x28 ≤ off.toNat) : s.readReg off = 0#32 := by
  unfold State.readReg
  split
  case h_10 => rfl
  all_goals omega

/-- The bits of STATUS, field after field from bit 0 up (R24). -/
theorem statusWord_bit (s : State) (k : Nat) :
    s.statusWord.getLsbD k =
      if k < 3 then s.state.code.getLsbD k
      else if k - 3 < 1 then (BitVec.ofBool s.done).getLsbD (k - 3)
      else if k - 3 - 1 < 3 then s.errKind.code.getLsbD (k - 3 - 1)
      else if k - 3 - 1 - 3 < 1 then (0#1).getLsbD (k - 3 - 1 - 3)
      else if k - 3 - 1 - 3 - 1 < 3 then s.failState.code.getLsbD (k - 3 - 1 - 3 - 1)
      else if k - 3 - 1 - 3 - 1 - 3 < 1 then (BitVec.ofBool s.released).getLsbD (k - 3 - 1 - 3 - 1 - 3)
      else if k - 3 - 1 - 3 - 1 - 3 - 1 < 1 then (BitVec.ofBool s.linkReady).getLsbD (k - 3 - 1 - 3 - 1 - 3 - 1)
      else (0#19).getLsbD (k - 3 - 1 - 3 - 1 - 3 - 1 - 1) := by
  unfold State.statusWord
  refine BitVec.getLsbD_append.trans ?_
  simp only [BitVec.getLsbD_append]

@[simp] theorem statusWord_state (s : State) : s.statusWord.extractLsb' 0 3 = s.state.code := by
  apply BitVec.eq_of_getLsbD_eq
  intro k hk
  rw [BitVec.getLsbD_extractLsb', statusWord_bit]
  simp [hk]

theorem statusWord_done (s : State) : s.statusWord.getLsbD 3 = s.done := by
  rw [statusWord_bit]
  simp

@[simp] theorem statusWord_errKind (s : State) : s.statusWord.extractLsb' 4 3 = s.errKind.code := by
  apply BitVec.eq_of_getLsbD_eq
  intro k hk
  rw [BitVec.getLsbD_extractLsb', statusWord_bit]
  interval_cases k <;> simp

theorem statusWord_bit_seven (s : State) : s.statusWord.getLsbD 7 = false := by
  rw [statusWord_bit]
  simp

@[simp] theorem statusWord_failState (s : State) : s.statusWord.extractLsb' 8 3 = s.failState.code := by
  apply BitVec.eq_of_getLsbD_eq
  intro k hk
  rw [BitVec.getLsbD_extractLsb', statusWord_bit]
  interval_cases k <;> simp

theorem statusWord_released (s : State) : s.statusWord.getLsbD 11 = s.released := by
  rw [statusWord_bit]
  simp

theorem statusWord_linkReady (s : State) : s.statusWord.getLsbD 12 = s.linkReady := by
  rw [statusWord_bit]
  simp

@[simp] theorem statusWord_reserved (s : State) : s.statusWord.extractLsb' 13 19 = 0#19 := by
  apply BitVec.eq_of_getLsbD_eq
  intro k hk
  rw [BitVec.getLsbD_extractLsb', statusWord_bit]
  interval_cases k <;> simp

theorem done_eq (s : State) : s.done = decide (s.state = .complete ∨ s.state = .failed) := by
  cases hs : s.state <;> simp [State.done, hs, UploadState.terminal]

/-- After reset only STATUS.LINK_READY reads anything but 0 (R42, R43). -/
theorem readReg_resetFrom (s : State) (off : BitVec 6) :
    (resetFrom s).readReg off = if off = 0x04#6 ∧ s.linkReady = true then 0x00001000#32 else 0#32 := by
  by_cases ho : off = 0x04#6
  · subst ho
    cases hl : s.linkReady <;> simp [State.statusWord, hl, State.done] <;> decide
  · have hn : off.toNat ≠ 0x04 := fun h => ho (BitVec.eq_of_toNat_eq h)
    rw [if_neg (fun h => ho h.1)]
    unfold State.readReg
    split
    · contradiction
    all_goals rfl

end Sys2Proof.Machine

namespace Sys2Proof.Proofs

open Sys2Proof.Machine

/-- Settles O16: each field of STATUS reads the code of its register. -/
theorem statusWordFields : Obligations.StatusWordFields := by
  intro s
  simp only [readReg_status, statusWord_state, statusWord_done, statusWord_errKind, statusWord_bit_seven,
    statusWord_failState, statusWord_released, statusWord_linkReady, statusWord_reserved, and_self, and_true, true_and]
  refine ⟨?_, done_eq s, ?_, ?_⟩
  · cases s.state <;> rfl
  · cases s.errKind <;> rfl
  · cases s.failState <;> rfl

/-- Settles O17: the narrow registers are zero-extended, so their value is their own. -/
theorem registerViewOffsets : Obligations.RegisterViewOffsets := by
  intro s
  refine ⟨readReg_ctrl s, readReg_imageLen s, ?_, readReg_allocSize s, ?_, ?_, ?_, readReg_framesSent s, ?_,
    fun off h => readReg_reserved s h⟩
  · rw [readReg_blockCount, BitVec.toNat_setWidth_of_le (by decide)]
  · rw [readReg_blockIndex, BitVec.toNat_setWidth_of_le (by decide)]
  · rw [readReg_errCode, BitVec.toNat_setWidth_of_le (by decide)]
  · rw [readReg_errBlock, BitVec.toNat_setWidth_of_le (by decide)]
  · rw [readReg_lastFcs, BitVec.toNat_setWidth_of_le (by decide)]

/-- Settles O18: the first state of all, with any level of `link_ready`, is what RESET makes of itself. -/
theorem resetRegistersReadZero : Obligations.ResetRegistersReadZero :=
  ⟨fun level off => readReg_resetFrom { State.reset with linkReady := level } off, rfl, rfl, rfl, rfl, rfl,
    fun s => ⟨resetFrom s, rfl, rfl, rfl, rfl, rfl, rfl, rfl, rfl, rfl, fun off => readReg_resetFrom s off⟩⟩

/-- Settles O21: neither write has an arm that changes the state. -/
theorem ignoredWritesChangeNothing : Obligations.IgnoredWritesChangeNothing :=
  fun _ => ⟨fun _ => rfl, fun _ _ => rfl⟩

end Sys2Proof.Proofs
end

section
/-! IMAGE_MEM after a host load (R60 to R62): the bytes read back, and the bytes of a slice. -/

namespace Sys2Proof.Machine

theorem getElem?_imageBytes {m : Memory} {a n k : Nat} (h : k < n) :
    (imageBytes m a n)[k]? = some (imageByte m (a + k)) := by
  induction n generalizing a k with
  | zero => omega
  | succ n ih =>
    cases k with
    | zero => rfl
    | succ k => rw [imageBytes, List.getElem?_cons_succ, ih (by omega), Nat.add_assoc, Nat.add_comm 1 k]

theorem imageByte_memLoad {m : Memory} {a k : Nat} {bs : List Byte} (h : k < bs.length) :
    imageByte (memLoad m a bs) (a + k) = bs[k] := by
  have hr : a ≤ a + k ∧ a + k < a + bs.length := by omega
  rw [imageByte, memByte?_memLoad, if_pos hr, Nat.add_sub_cancel_left, List.getElem?_eq_getElem h, Option.getD_some]

/-- The bytes of a load are the slice that it fills. -/
theorem imageBytes_memLoad (m : Memory) (a : Nat) (bs : List Byte) :
    imageBytes (memLoad m a bs) a bs.length = bs := by
  refine List.ext_getElem? fun k => ?_
  by_cases h : k < bs.length
  · rw [getElem?_imageBytes h, imageByte_memLoad h, List.getElem?_eq_getElem h]
  · rw [List.getElem?_eq_none (by simpa using h), List.getElem?_eq_none (by simpa using h)]

theorem memByte?_memLoad_outside {m : Memory} {a c : Nat} {bs : List Byte} (h : c < a ∨ a + bs.length ≤ c) :
    memByte? (memLoad m a bs) c = memByte? m c := by
  rw [memByte?_memLoad, if_neg (by omega)]

/-- In a session a host load is refused (R62, I13). -/
theorem hostLoad_of_inSession {s : State} (h : s.state.inSession = true) (addr : Word) (bytes : List Byte) :
    hostLoad addr bytes s = .refused .imageWriteInSession := by
  rw [hostLoad, if_pos h]

/-- Out of a session a host load within the 32-bit addresses stores its bytes (R60). -/
theorem hostLoad_of_not_inSession {s : State} {addr : Word} {bytes : List Byte} (h : s.state.inSession = false)
    (hend : addr.toNat + bytes.length ≤ Config.imageSpace) :
    hostLoad addr bytes s = .next { s with image := memLoad s.image addr.toNat bytes } := by
  rw [hostLoad, if_neg (by simp [h]), if_neg (by omega)]

end Sys2Proof.Machine

namespace Sys2Proof.Proofs

open Sys2Proof.Machine

/-- Settles O45: the memory after the load is `memLoad`'s, whose reads `memByte?_memLoad` gives. -/
theorem hostLoadWritesImage : Obligations.HostLoadWritesImage := by
  refine fun s addr bytes => ⟨fun hs => hostLoad_of_inSession (inSession_iff.2 hs) addr bytes, fun ha hu hend => ?_⟩
  have hn : s.state.inSession = false := by
    rw [← Bool.not_eq_true, inSession_iff]
    exact not_or.2 ⟨ha, hu⟩
  exact ⟨memLoad s.image addr.toNat bytes, hostLoad_of_not_inSession hn hend, imageBytes_memLoad _ _ _,
    fun a h => memByte?_memLoad_outside h, memLoad_wf hend⟩

end Sys2Proof.Proofs
end

section
/-! Words that decode to no operation, and the words of link reads and register accesses (R64, R88, R91, R93). -/

namespace Sys2Proof

/-- An offset is aligned when it is a multiple of 4 (R64). -/
theorem offsetAligned_eq_decide (off : BitVec 6) : offsetAligned off = decide (off.toNat % 4 = 0) := by
  revert off
  decide

theorem decode_timeout_with_status {status : Byte} (h : status ≠ 0#8) :
    decode (.rxev (rxevWord 0#1 status)) = .error .timeoutWithStatus := by
  simp [decode, decodeRxev, h]

theorem decode_reserved_command {cmd : Byte} (len : BitVec 16) (h₁ : cmd ≠ Config.cmdAllocateMemory)
    (h₂ : cmd ≠ Config.cmdBinaryBlock) (h₃ : cmd ≠ Config.cmdBinaryBlockLast) :
    decode (.frame (frameHeader cmd len)) = .error .reservedCommand := by
  simp only [Config.cmdAllocateMemory, Config.cmdBinaryBlock, Config.cmdBinaryBlockLast] at h₁ h₂ h₃
  simp [decode, decodeFrame, h₁, h₂, h₃]

theorem decode_misaligned {off : BitVec 6} (w : BitVec 1) (data : Word) (h : off.toNat % 4 ≠ 0) :
    decode (.hostop (hostopWord w off data)) = .error .misalignedOffset := by
  simp [decode, decodeHostop, offsetAligned_eq_decide, h]

theorem decode_read {off : BitVec 6} (h : off.toNat % 4 = 0) :
    decode (.hostop (hostopWord 0#1 off 0#32)) = .ok (.hostRead off) := by
  simp [decode, decodeHostop, offsetAligned_eq_decide, h]

/-- A link read of any length is the event of its first byte (R67, R87). -/
theorem decode_rxevOfRead_nil : decode (.rxev (rxevOfRead [])) = .ok .ackTimeout := by decide

theorem decode_rxevOfRead_success (more : List Byte) :
    decode (.rxev (rxevOfRead (0x00#8 :: more))) = .ok .ackSuccess := by
  simp [decode, decodeRxev, rxevOfRead]

theorem decode_rxevOfRead_error {code : Byte} (more : List Byte) (h : code ≠ 0x00#8) :
    decode (.rxev (rxevOfRead (code :: more))) = .ok (.ackError code) := by
  simp [decode, decodeRxev, rxevOfRead, h]

theorem accessWord_eq_none {width offset : Nat} (write : Bool) (data : Word)
    (h : width ≠ 32 ∨ offset % 4 ≠ 0 ∨ 0x3F < offset) : accessWord write width offset data = none :=
  if_neg (by omega)

theorem accessWord_eq_some {offset : Nat} (write : Bool) (data : Word) (ha : offset % 4 = 0) (hl : offset ≤ 0x3F) :
    accessWord write 32 offset data = some (hostopOfAccess write (BitVec.ofNat 6 offset) data) :=
  if_pos ⟨rfl, ha, hl⟩

end Sys2Proof

namespace Sys2Proof.Machine

theorem runWord_of_decode_error {w : OpWord} {e : DecodeError} (h : decode w = .error e) (s : State) :
    runWord w s = .refused (.illegalWord e) := by
  simp only [runWord, h]

theorem exec_hostRead_misaligned {off : BitVec 6} (h : off.toNat % 4 ≠ 0) (s : State) :
    exec (.hostRead off) s = .refused .badRegisterAccess := by
  simp [exec, execHostRead, offsetAligned_eq_decide, h]

/-- An access without a word is refused (R64). -/
theorem runAccess_illegal {width offset : Nat} (h : width ≠ 32 ∨ offset % 4 ≠ 0 ∨ 0x3F < offset) (write : Bool)
    (data : Word) (s : State) : runAccess write width offset data s = .refused .badRegisterAccess := by
  simp only [runAccess, accessWord_eq_none write data h]

/-- A legal access runs as its HOSTOP word (R96). -/
theorem runAccess_legal {offset : Nat} (ha : offset % 4 = 0) (hl : offset ≤ 0x3F) (write : Bool) (data : Word)
    (s : State) :
    runAccess write 32 offset data s = runWord (.hostop (hostopOfAccess write (BitVec.ofNat 6 offset) data)) s := by
  simp only [runAccess, accessWord_eq_some write data ha hl]

/-- The HOSTOP word of a legal read is HOST_READ's. -/
theorem runAccess_read {offset : Nat} (ha : offset % 4 = 0) (hl : offset ≤ 0x3F) (data : Word) (s : State) :
    runAccess false 32 offset data s = exec (.hostRead (BitVec.ofNat 6 offset)) s := by
  have hoff : (BitVec.ofNat 6 offset).toNat % 4 = 0 := by
    rw [BitVec.toNat_ofNat]
    omega
  rw [runAccess_legal ha hl]
  exact runWord_of_decode_ok (decode_read hoff) s

end Sys2Proof.Machine

namespace Sys2Proof.Proofs

open Sys2Proof.Machine

/-- Settles O43: what does not decode is refused by `runWord`, what has no word by `runAccess`. -/
theorem illegalWordsRefused : Obligations.IllegalWordsRefused := by
  refine ⟨fun s w rest e hs hw => ?_, fun _ h => decode_timeout_with_status h,
    fun _ len h₁ h₂ h₃ => decode_reserved_command len h₁ h₂ h₃, fun w _ data h => decode_misaligned w data h,
    fun s _ h => exec_hostRead_misaligned h s, fun s write _ _ data h => runAccess_illegal h write data s,
    fun s _ data ha hl => ⟨runAccess_read ha hl data s, runAccess_legal ha hl true data s⟩⟩
  rw [step_of_inputs_cons hs]
  exact runWord_of_decode_error hw _

/-- Settles O44: the RXEV word of a read holds its first byte only. -/
theorem linkReadRunsAsFirstByte : Obligations.LinkReadRunsAsFirstByte :=
  fun s => ⟨runWord_of_decode_ok decode_rxevOfRead_nil s,
    fun more => runWord_of_decode_ok (decode_rxevOfRead_success more) s,
    fun _ more h => runWord_of_decode_ok (decode_rxevOfRead_error more h) s⟩

end Sys2Proof.Proofs
end

section
/-! The bytes of a frame by position (R81, R83, R84, R131), and FRAME_CHECK of the frames BUILD_FRAME makes (R140,
R141). -/

namespace Sys2Proof.Machine

/-- LE16 carries its value (R13, R84). -/
theorem le16_join (v : BitVec 16) :
    BitVec.setWidth 16 (v.extractLsb' 0 8) ||| (BitVec.setWidth 16 (v.extractLsb' 8 8) <<< 8) = v := by
  apply BitVec.eq_of_getLsbD_eq
  intro k hk
  interval_cases k <;> simp

section
variable (cmd : Byte) (payload : List Byte)

theorem frameBody_getElem?_cmd : (frameBody cmd payload)[0]? = some cmd := rfl

theorem frameBody_getElem?_lenLo :
    (frameBody cmd payload)[1]? = some ((BitVec.ofNat 16 payload.length).extractLsb' 0 8) := rfl

theorem frameBody_getElem?_lenHi :
    (frameBody cmd payload)[2]? = some ((BitVec.ofNat 16 payload.length).extractLsb' 8 8) := rfl

theorem frameBody_getElem?_payload (k : Nat) : (frameBody cmd payload)[3 + k]? = payload[k]? := by
  rw [Nat.add_comm]
  rfl

theorem frameBytes_getElem?_start : (frameBytes cmd payload)[0]? = some Config.startMarker := rfl

/-- After the start marker come the bytes the check sequence covers (R83). -/
theorem frameBytes_getElem?_body {k : Nat} (h : k < payload.length + 3) :
    (frameBytes cmd payload)[k + 1]? = (frameBody cmd payload)[k]? := by
  rw [frameBytes, List.getElem?_cons_succ, List.getElem?_append_left (by simpa using h)]

theorem frameBytes_getElem?_fcs :
    (frameBytes cmd payload)[4 + payload.length]? = some (checksum (frameBody cmd payload)) := by
  rw [show 4 + payload.length = payload.length + 3 + 1 by omega, frameBytes, List.getElem?_cons_succ,
    List.getElem?_append_right (by simp)]
  simp

theorem frameBytes_getElem?_end : (frameBytes cmd payload)[5 + payload.length]? = some Config.endMarker := by
  rw [show 5 + payload.length = payload.length + 4 + 1 by omega, frameBytes, List.getElem?_cons_succ,
    List.getElem?_append_right (by simp)]
  simp

theorem frameLen_frameBytes (h : payload.length ≤ 65535) : frameLen (frameBytes cmd payload) = payload.length := by
  have hv := le16_join (BitVec.ofNat 16 payload.length)
  have hn : (BitVec.ofNat 16 payload.length).toNat = payload.length := by
    rw [BitVec.toNat_ofNat]
    omega
  exact (congrArg BitVec.toNat hv).trans hn

theorem frameBytes_body : ((frameBytes cmd payload).drop 1).take (3 + payload.length) = frameBody cmd payload := by
  rw [frameBytes, List.drop_succ_cons, List.drop_zero, List.take_left' (by simp [Nat.add_comm])]

theorem frameBytes_payload : ((frameBytes cmd payload).drop 4).take payload.length = payload := by
  rw [show (frameBytes cmd payload).drop 4 = payload ++ [checksum (frameBody cmd payload), Config.endMarker] from rfl,
    List.take_left]

/-- The commands and payload lengths of the three frames (R85, R86, R89). -/
def LegalFrame : Prop :=
  cmd = Config.cmdAllocateMemory ∧ payload.length = Config.allocPayloadLen ∨
    (cmd = Config.cmdBinaryBlock ∨ cmd = Config.cmdBinaryBlockLast) ∧ 1 ≤ payload.length ∧
      payload.length ≤ Config.blockSize

end

/-- FRAME_CHECK gives back command and payload of a legal frame (R141). -/
theorem frameCheck_frameBytes {cmd : Byte} {payload : List Byte} (h : LegalFrame cmd payload) :
    frameCheck (frameBytes cmd payload) = .ok (cmd, payload) := by
  have hlen : payload.length ≤ 65535 := by
    simp only [LegalFrame, Config.allocPayloadLen, Config.blockSize] at h
    omega
  have hend : byteAt (frameBytes cmd payload) (5 + payload.length) = Config.endMarker := by
    rw [byteAt, List.getD_eq_getElem?_getD, frameBytes_getElem?_end, Option.getD_some]
  have hfcs : byteAt (frameBytes cmd payload) (4 + payload.length) = checksum (frameBody cmd payload) := by
    rw [byteAt, List.getD_eq_getElem?_getD, frameBytes_getElem?_fcs, Option.getD_some]
  have hstart : byteAt (frameBytes cmd payload) 0 = Config.startMarker := rfl
  have hcmd : byteAt (frameBytes cmd payload) 1 = cmd := rfl
  simp only [frameCheck, frameLen_frameBytes cmd payload hlen, frameBytes_length, hend, hfcs, hstart, hcmd,
    frameBytes_body, frameBytes_payload]
  obtain ⟨rfl, hn⟩ | ⟨rfl | rfl, hpos, hmax⟩ := h
  · simp [hn]
  all_goals
    have hz : payload ≠ [] := List.ne_nil_of_length_pos hpos
    simp [Nat.add_comm, hz, hmax]

end Sys2Proof.Machine
end

section
/-! What an operation leaves to the host and the link: the memory and the inputs as they were, and on the TX stream
nothing or one whole frame (R62, R66, R68, R141). -/

namespace Sys2Proof.Safety

open Sys2Proof.Machine

theorem legalFrame_alloc (s : State) : LegalFrame Config.cmdAllocateMemory (Payload.alloc.bytes s) := .inl ⟨rfl, rfl⟩

/-- A block that begins below L has 1 to 512 bytes and one of the two block commands (R86, R168). -/
theorem legalFrame_block {s : State} {i : Nat} (n : Nat) (h : (Payload.block i).readable s = true) :
    LegalFrame (blockCmd n i) ((Payload.block i).bytes s) := by
  refine .inr ⟨?_, ?_, ?_⟩
  · rw [blockCmd]
    split
    · exact .inr rfl
    · exact .inl rfl
  · rw [payload_bytes_length]
    exact payload_size_pos h
  · rw [payload_bytes_length]
    exact payload_size_le s _

/-- `t` differs from `s` at the host's and the link's side by at most one whole legal frame on the TX stream. -/
structure SendsAtMostOneFrame (s t : State) : Prop where
  image : t.image = s.image
  linkReady : t.linkReady = s.linkReady
  inputs : t.inputs = s.inputs
  txPast : t.txPast = s.txPast
  tx : t.tx = s.tx ∨ ∃ cmd payload, t.tx = s.tx ++ frameBytes cmd payload ∧ LegalFrame cmd payload

theorem SendsAtMostOneFrame.refl (s : State) : SendsAtMostOneFrame s s := ⟨rfl, rfl, rfl, rfl, .inl rfl⟩

theorem sendsAtMostOneFrame_raise (e : UploadError) (s : State) : SendsAtMostOneFrame s (raise e s) :=
  ⟨rfl, rfl, rfl, rfl, .inl rfl⟩

theorem sendsAtMostOneFrame_complete (s : State) : SendsAtMostOneFrame s (complete s) :=
  ⟨rfl, rfl, rfl, rfl, .inl rfl⟩

/-- EMIT_FRAME at the transaction level appends its frame (R164). -/
theorem sendsAtMostOneFrame_emitFrame {cmd : Byte} {p : Payload} {s t : State}
    (hl : p.readable s = true → LegalFrame cmd (p.bytes s)) (h : emitFrame .transaction cmd p s = .next t) :
    SendsAtMostOneFrame s t := by
  obtain ⟨-, hr, rfl⟩ := emitFrame_transaction_next.1 h
  exact ⟨rfl, rfl, rfl, rfl, .inr ⟨cmd, p.bytes s, rfl, hl hr⟩⟩

theorem sendsAtMostOneFrame_emitAllocate {s t : State} (h : emitAllocate .transaction s = .next t) :
    SendsAtMostOneFrame s t :=
  sendsAtMostOneFrame_emitFrame (fun _ => legalFrame_alloc s) h

theorem sendsAtMostOneFrame_emitBlock {i : Nat} {s t : State} (h : emitBlock .transaction i s = .next t) :
    SendsAtMostOneFrame s t :=
  sendsAtMostOneFrame_emitFrame (fun hr => legalFrame_block _ hr) h

theorem sendsAtMostOneFrame_startSession {s t : State} (h : startSession .transaction s = .next t) :
    SendsAtMostOneFrame s t := by
  obtain ⟨-, rfl⟩ | ⟨-, -, -, rfl⟩ | ⟨-, -, -, u, hu, rfl⟩ := startSession_next h
  · exact .refl t
  · exact sendsAtMostOneFrame_raise _ s
  · obtain ⟨hm, hl, hi, hp, htx⟩ := sendsAtMostOneFrame_emitAllocate hu
    exact ⟨hm, hl, hi, hp, htx⟩

theorem sendsAtMostOneFrame_onSuccess {s t : State} (h : onSuccess .transaction s = .next t) :
    SendsAtMostOneFrame s t := by
  obtain ⟨-, rfl⟩ | ⟨-, -, rfl⟩ | ⟨-, -, u, hu, rfl⟩ | ⟨-, -, hu⟩ | ⟨-, -, rfl⟩ := onSuccess_next h
  · exact .refl t
  · exact sendsAtMostOneFrame_complete s
  · obtain ⟨hm, hl, hi, hp, htx⟩ := sendsAtMostOneFrame_emitBlock hu
    exact ⟨hm, hl, hi, hp, htx⟩
  · obtain ⟨hm, hl, hi, hp, htx⟩ := sendsAtMostOneFrame_emitBlock hu
    exact ⟨hm, hl, hi, hp, htx⟩
  · exact sendsAtMostOneFrame_complete s

theorem sendsAtMostOneFrame_linkEvent {r : AckResponse} {s t : State} (h : linkEvent r s = .next t) :
    SendsAtMostOneFrame s t := by
  obtain ⟨-, rfl⟩ | ⟨-, h⟩ := linkEvent_next h
  · exact .refl t
  have hclosed : SendsAtMostOneFrame (closeWindow s) t := by
    obtain ⟨-, h⟩ | ⟨-, h⟩ | ⟨c, -, -, h⟩ := takeEvent_next h
    · obtain ⟨-, rfl⟩ | ⟨-, rfl⟩ | ⟨-, rfl⟩ := onTimeout_next h
      · exact .refl _
      · exact sendsAtMostOneFrame_raise _ _
      · exact sendsAtMostOneFrame_raise _ _
    · exact sendsAtMostOneFrame_onSuccess h
    · obtain ⟨-, rfl⟩ | ⟨-, rfl⟩ | ⟨-, rfl⟩ := onErrorCode_next h
      · exact .refl _
      · exact sendsAtMostOneFrame_raise _ _
      · exact sendsAtMostOneFrame_raise _ _
  obtain ⟨hm, hl, hi, hp, htx⟩ := hclosed
  exact ⟨hm, hl, hi, hp, htx⟩

/-- Every operation but RESET, in every state. -/
theorem sendsAtMostOneFrame_exec {i : Instr} {s t : State} (hi : i ≠ .reset) (h : exec i s = .next t) :
    SendsAtMostOneFrame s t := by
  cases i with
  | frameAllocateMemory =>
    obtain ⟨-, rfl⟩ | ⟨-, h⟩ := frameAllocateMemory_next h
    · exact .refl t
    · exact sendsAtMostOneFrame_emitAllocate h
  | frameBinaryBlock =>
    obtain ⟨-, rfl⟩ | ⟨-, h⟩ := frameBinaryBlock_next h
    · exact .refl t
    · exact sendsAtMostOneFrame_emitBlock h
  | frameBinaryBlockLast len =>
    obtain rfl | ⟨-, -, h⟩ := frameBinaryBlockLast_next h
    · exact .refl t
    · exact sendsAtMostOneFrame_emitBlock h
  | ackSuccess => exact sendsAtMostOneFrame_linkEvent h
  | ackError code => exact sendsAtMostOneFrame_linkEvent h
  | ackTimeout => exact sendsAtMostOneFrame_linkEvent h
  | hostStart ignored => exact sendsAtMostOneFrame_startSession h
  | hostCtrlNop ignored => cases h; exact .refl s
  | hostWriteImageLen len =>
    obtain ⟨-, rfl⟩ | ⟨-, rfl⟩ := hostWriteImageLen_next h
    · exact ⟨rfl, rfl, rfl, rfl, .inl rfl⟩
    · exact .refl t
  | hostWriteIgnored off data => cases h; exact .refl s
  | hostRead off =>
    obtain ⟨-, rfl⟩ := hostRead_next h
    exact ⟨rfl, rfl, rfl, rfl, .inl rfl⟩
  | reset => exact absurd rfl hi

theorem exec_reset_next {s t : State} (h : exec .reset s = .next t) : t = resetFrom s := by
  cases h
  rfl

theorem exec_keeps_image_and_inputs {i : Instr} {s t : State} (h : exec i s = .next t) :
    t.image = s.image ∧ t.linkReady = s.linkReady ∧ t.inputs = s.inputs := by
  by_cases hi : i = .reset
  · subst hi
    rw [exec_reset_next h]
    exact ⟨rfl, rfl, rfl⟩
  · obtain ⟨hm, hl, hin, -, -⟩ := sendsAtMostOneFrame_exec hi h
    exact ⟨hm, hl, hin⟩

end Sys2Proof.Safety

namespace Sys2Proof.Proofs

open Sys2Proof.Machine Sys2Proof.Safety

/-- Settles O38: what an operation appends is a legal frame, and FRAME_CHECK accepts those (`frameCheck_frameBytes`). -/
theorem txGrowsByWholeFrames : Obligations.TxGrowsByWholeFrames := by
  refine fun s t i h => ⟨?_, fun hi => ?_⟩
  · rintro rfl
    rw [exec_reset_next h]
    exact ⟨List.append_nil _, rfl⟩
  · obtain ⟨-, -, -, hp, htx | ⟨cmd, payload, htx, hl⟩⟩ := sendsAtMostOneFrame_exec hi h
    · exact ⟨hp, .inl htx⟩
    · exact ⟨hp, .inr ⟨cmd, payload, htx, frameCheck_frameBytes hl⟩⟩

/-- Settles O39: the memory itself is the same, so every read of it is. -/
theorem operationsLeaveImageAndInputs : Obligations.OperationsLeaveImageAndInputs := by
  intro s t i h
  obtain ⟨hm, hl, hin⟩ := exec_keeps_image_and_inputs h
  rw [hm]
  exact ⟨rfl, fun _ => rfl, fun _ => rfl, hl, hin⟩

end Sys2Proof.Proofs
end

section
/-! The frame the session is at (R90), and what a state's TX stream is when no frame or a new one is in emission. -/

namespace Sys2Proof.Safety

open Sys2Proof.Machine

/-- `t` has what the session's frames are read from: the latched sizes and the image (R90, R166). -/
structure FramesKept (s t : State) : Prop where
  imageLen : t.imageLen = s.imageLen
  blockCount : t.blockCount = s.blockCount
  allocSize : t.allocSize = s.allocSize
  image : t.image = s.image

theorem framesKept_of_sessionKept {s t : State} (h : SessionKept s t) : FramesKept s t :=
  ⟨h.imageLen, h.blockCount, h.allocSize, h.image⟩

section
variable {s t : State} (hk : FramesKept s t)
include hk

theorem payload_bytes_eq_of_framesKept (p : Payload) : p.bytes t = p.bytes s := by
  cases p <;> simp only [Payload.bytes, blockSlice, hk.imageLen, hk.allocSize, hk.image]

theorem sessionFrame_eq_of_framesKept (n : Nat) : sessionFrame t n = sessionFrame s n := by
  cases n <;> simp only [sessionFrame, blockSlice, hk.imageLen, hk.blockCount, hk.allocSize, hk.image]

theorem sessionBytes_eq_of_framesKept (n : Nat) : sessionBytes t n = sessionBytes s n := by
  induction n with
  | zero => rfl
  | succ n ih => rw [sessionBytes, sessionBytes, ih, sessionFrame_eq_of_framesKept hk]

end

/-- The bytes that the check sequence of the frame the session is at covers (R83). -/
def bodyNow (s : State) : List Byte := frameBody (cmdNow s) ((payloadNow s).bytes s)

/-- The frame the session is at (R90, R131). -/
def frameNow (s : State) : List Byte := frameBytes (cmdNow s) ((payloadNow s).bytes s)

theorem bodyNow_eq_of_sessionKept {s t : State} (hk : SessionKept s t) : bodyNow t = bodyNow s := by
  simp only [bodyNow, cmdNow_eq_of_sessionKept hk, payloadNow_eq_of_sessionKept hk,
    payload_bytes_eq_of_framesKept (framesKept_of_sessionKept hk)]

/-- The frame the session is at is the one that FRAMES_SENT counts up to (R36, R90). -/
theorem sessionFrame_framesSent {s : State} (hs : s.state.inSession = true)
    (hf : s.framesSent.toNat + 1 = framesBegun s) : sessionFrame s s.framesSent.toNat = frameNow s := by
  have hpt := point_eq_of_inSession hs
  obtain h | h := inSession_iff.1 hs <;> simp only [framesBegun, hpt, h] at hf
  · rw [show s.framesSent.toNat = 0 by omega]
    simp [sessionFrame, frameNow, cmdNow, payloadNow, h, Payload.bytes]
  · rw [show s.framesSent.toNat = s.blockIndex.toNat + 1 by omega]
    simp [sessionFrame, frameNow, cmdNow, payloadNow, h, Payload.bytes]

theorem toNat_framesSent_add_one {s : State} (hf : s.framesSent.toNat + 1 = framesBegun s) :
    (s.framesSent + 1#32).toNat = s.framesSent.toNat + 1 := by
  have hlt := framesBegun_lt s
  simp only [BitVec.toNat_add, BitVec.toNat_ofNat]
  omega

/-- The frames of the session up to and with the one it is at (R77, R95). -/
theorem sessionBytes_framesSent_add_one {s : State} (hs : s.state.inSession = true)
    (hf : s.framesSent.toNat + 1 = framesBegun s) :
    sessionBytes s (s.framesSent + 1#32).toNat = sessionBytes s s.framesSent.toNat ++ frameNow s := by
  rw [toNat_framesSent_add_one hf, sessionBytes, sessionFrame_framesSent hs hf]

/-- With no session under way the stream's invariant says nothing. -/
theorem streamInv_of_ended {t : State} (hi : Inv t) (h : t.state.inSession = false) : StreamInv t where
  stream := by simp [h]
  check := fun hp => absurd (hi.serPhase_eq_idle h) hp
  held := by simp [hi.serHeld_eq_none (by simp [hi.serPhase_eq_idle h])]

/-- With no frame in emission the stream is whole frames. -/
theorem streamInv_of_idle {t : State} (hi : Inv t) (hp : t.serPhase = .idle)
    (htx : t.tx = sessionBytes t t.framesSent.toNat) : StreamInv t where
  stream := fun _ => by simpa [bytesTransferred, hp] using htx
  check := fun hn => absurd hp hn
  held := by simp [hi.serHeld_eq_none (by simp [hp])]

theorem StreamInv.tx_eq_of_windowOpen {s : State} (hs : StreamInv s) (hw : s.windowOpen = true) :
    s.tx = sessionBytes s s.framesSent.toNat := by
  obtain ⟨hin, hp⟩ := windowOpen_iff.1 hw
  simpa [bytesTransferred, hp] using hs.stream hin

/-- In emission the stream is the frames sent and the bytes transferred of the frame the session is at. -/
theorem StreamInv.tx_eq_of_emitting {s : State} (hi : Inv s) (hs : StreamInv s) (hn : s.serPhase ≠ .idle) :
    s.tx = sessionBytes s s.framesSent.toNat ++ (frameNow s).take (bytesTransferred s) := by
  have hin := hi.inSession_of_emitting hn
  have hf : s.framesSent.toNat + 1 = framesBegun s := by simpa [FramesCounted, hn] using hi.frames
  rw [← sessionFrame_framesSent hin hf]
  exact hs.stream hin

/-- The link's level, the read port and the moves to come are no part of the stream. -/
theorem StreamInv.setPorts {s : State} (hs : StreamInv s) (level : Bool) (r : Option Word) (moves : List Input) :
    StreamInv { s with linkReady := level, regRdata := r, inputs := moves } := by
  have hk : FramesKept s { s with linkReady := level, regRdata := r, inputs := moves } := ⟨rfl, rfl, rfl, rfl⟩
  refine ⟨fun h => ?_, hs.check, hs.held⟩
  rw [sessionBytes_eq_of_framesKept hk, sessionFrame_eq_of_framesKept hk]
  exact hs.stream h

end Sys2Proof.Safety
end

section
/-! The transitions of the BlockUploader keep the stream's invariant, at both levels (R170 to R184): each ends the
session or emits the next frame after whole ones. -/

namespace Sys2Proof.Safety

open Sys2Proof.Machine

theorem moveTo_eq_self {u : UploadState} {s : State} (h : s.state = u) : moveTo u s = s := by
  rw [moveTo, ← h]

/-- EMIT_FRAME after whole frames: at the transaction level one more whole frame, at the byte level none of its bytes
yet and the checksum unit cleared (R164, R210). -/
theorem streamInv_of_emitFrame {lv : Level} {s t : State} (hr : ReadyToEmit s)
    (htx : s.tx = sessionBytes s s.framesSent.toNat)
    (h : emitFrame lv (cmdNow s) (payloadNow s) s = .next t) : StreamInv t := by
  have hk := framesKept_of_sessionKept (sessionKept_of_emitFrame h)
  have hi := inv_of_emitFrame hr h
  cases lv with
  | transaction =>
    obtain ⟨hp, -, rfl⟩ := emitFrame_transaction_next.1 h
    refine streamInv_of_idle hi hp ?_
    rw [sessionBytes_eq_of_framesKept hk]
    simp only [awaitAck_tx, frameSent_tx, txEmit_tx, awaitAck_framesSent, frameSent_framesSent, txEmit_framesSent]
    rw [sessionBytes_framesSent_add_one hr.session.underWay hr.frames, htx, frameNow]
  | cycle =>
    obtain ⟨-, -, rfl⟩ := emitFrame_cycle_next.1 h
    refine ⟨fun _ => ?_, fun _ => ?_, nofun⟩
    · rw [sessionBytes_eq_of_framesKept hk]
      simpa [bytesTransferred] using htx
    · simp [bytesLoaded, crcBits, checksum, crcRun]

theorem streamInv_startSession {lv : Level} {s t : State} (hi : Inv s) (hs : StreamInv s)
    (h : startSession lv s = .next t) : StreamInv t := by
  have ht := inv_startSession hi h
  obtain ⟨-, rfl⟩ | ⟨-, -, -, rfl⟩ | ⟨hst, hl, -, u, hu, rfl⟩ := startSession_next h
  · exact hs
  · exact streamInv_of_ended ht rfl
  · obtain ⟨-, -, -, -, -, htx⟩ := hi.unstarted (by simp [Started, point, hst])
    exact streamInv_of_emitFrame (readyToEmit_start hi hst hl) htx (emitFrame_moveTo .allocateSent hu)

/-- What a success acknowledgment does: it completes the session, or it emits the frame of the next block from a session
that is ready for it (R174 to R177). -/
theorem onSuccess_completes_or_emits {lv : Level} {s t : State} (hi : Inv s) (hw : s.windowOpen = true)
    (h : onSuccess lv (closeWindow s) = .next t) :
    t.state = .complete ∨ ∃ i u, u = moveTo .uploading (atBlock i (closeWindow s)) ∧ ReadyToEmit u ∧
      emitFrame lv (cmdNow u) (payloadNow u) u = .next t := by
  obtain ⟨hn, -⟩ | ⟨-, -, rfl⟩ | ⟨ha, hb, u, hu, rfl⟩ | ⟨hu, hb, he⟩ | ⟨-, -, rfl⟩ := onSuccess_next h
  · simp [(windowOpen_iff.1 hw).1] at hn
  · exact .inl rfl
  · have hpos : (0#24).toNat < s.blockCount.toNat := by
      simp only [closeWindow_blockCount] at hb
      bv_omega
    exact .inr ⟨0#24, _, rfl, readyToEmit_block hi hw hpos (.inl ⟨ha, rfl⟩), emitFrame_moveTo .uploading hu⟩
  · simp only [closeWindow_state, closeWindow_blockIndex, closeWindow_blockCount] at hu hb he
    have hn : (s.blockIndex + 1#24).toNat = s.blockIndex.toNat + 1 := by
      have := s.blockCount.isLt
      simp only [BitVec.toNat_add, BitVec.toNat_ofNat]
      omega
    have hm := emitFrame_moveTo .uploading he
    rw [← hn, moveTo_eq_self ((sessionKept_of_emitFrame he).state.trans hu)] at hm
    exact .inr ⟨_, _, rfl, readyToEmit_block hi hw (hn ▸ hb) (.inr ⟨hu, hn⟩), hm⟩
  · exact .inl rfl

theorem streamInv_onSuccess {lv : Level} {s t : State} (hi : Inv s) (hs : StreamInv s) (hw : s.windowOpen = true)
    (h : onSuccess lv (closeWindow s) = .next t) : StreamInv t := by
  obtain hc | ⟨i, u, rfl, hr, he⟩ := onSuccess_completes_or_emits hi hw h
  · exact streamInv_of_ended (inv_onSuccess hi hw h) (by rw [hc]; rfl)
  · refine streamInv_of_emitFrame hr ?_ he
    have hk : FramesKept s (moveTo .uploading (atBlock i (closeWindow s))) := ⟨rfl, rfl, rfl, rfl⟩
    rw [sessionBytes_eq_of_framesKept hk]
    exact hs.tx_eq_of_windowOpen hw

/-- The event of an open window keeps the stream's invariant: an error ends the session. -/
theorem streamInv_takeEvent {lv : Level} {r : AckResponse} {s t : State} (hi : Inv s) (hs : StreamInv s)
    (hw : s.windowOpen = true) (h : takeEvent lv r s = .next t) : StreamInv t := by
  have ht := inv_takeEvent hi hw h
  have hin := (windowOpen_iff.1 hw).1
  obtain ⟨-, h⟩ | ⟨-, h⟩ | ⟨c, -, -, h⟩ := takeEvent_next h
  · obtain ⟨hn, -⟩ | ⟨-, rfl⟩ | ⟨-, rfl⟩ := onTimeout_next h
    · simp [hin] at hn
    · exact streamInv_of_ended ht rfl
    · exact streamInv_of_ended ht rfl
  · exact streamInv_onSuccess hi hs hw h
  · obtain ⟨hn, -⟩ | ⟨-, rfl⟩ | ⟨-, rfl⟩ := onErrorCode_next h
    · simp [hin] at hn
    · exact streamInv_of_ended ht rfl
    · exact streamInv_of_ended ht rfl

theorem streamInv_linkEvent {r : AckResponse} {s t : State} (hi : Inv s) (hs : StreamInv s)
    (h : linkEvent r s = .next t) : StreamInv t := by
  obtain ⟨-, rfl⟩ | ⟨hw, h⟩ := linkEvent_next h
  · exact hs
  · exact streamInv_takeEvent hi hs hw h

end Sys2Proof.Safety
end

section
/-! The byte presented to the link is the next one of the frame the session is at (R211 to R214). -/

namespace Sys2Proof.Machine

/-- Byte `k` of LE32 is a shift of the value (R13, R213). -/
theorem le32_getElem? {v : Word} {k : Nat} (h : k < 4) : (le32 v)[k]? = some ((v >>> (8 * k)).setWidth 8) := by
  have hbyte : ∀ j, v.extractLsb' j 8 = (v >>> j).setWidth 8 := fun j => by
    ext k hk
    simp
  interval_cases k <;> exact congrArg some (hbyte _)

/-- CHECKSUM of a byte more (R112, R114). -/
theorem checksum_append_singleton (l : List Byte) (b : Byte) : checksum (l ++ [b]) = crcByte (checksum l) b := by
  simp [checksum, crcRun]

end Sys2Proof.Machine

namespace Sys2Proof.Safety

open Sys2Proof.Machine

/-- The serializer's parameters are those of the frame the session is at (R210). -/
theorem Inv.emission_params {s : State} (hi : Inv s) (hn : s.serPhase ≠ .idle) :
    s.serCmd = cmdNow s ∧ s.serLen = BitVec.ofNat 16 ((payloadNow s).bytes s).length ∧
      s.serLen.toNat = ((payloadNow s).bytes s).length ∧ s.serSrc = (payloadNow s).src ∧
      s.serBase = (payloadNow s).base := by
  obtain ⟨-, hpar, -⟩ := hi.serializer
  obtain ⟨-, hcmd, hlen, hsrc, hbase⟩ := hpar hn
  rw [payload_bytes_length]
  refine ⟨hcmd, ?_, hlen, hsrc, hbase⟩
  rw [← hlen, BitVec.ofNat_toNat, BitVec.setWidth_eq]

/-- A position within block `i` is an address of the image, which does not wrap (R60, R166, R213). -/
theorem toNat_blockAddr {len : Word} {i : Nat} {pos : BitVec 16} (h : pos.toNat < blockLen len.toNat i) :
    ((Payload.block i).base + pos.setWidth 32).toNat = i * Config.blockSize + pos.toNat := by
  have hl := len.isLt
  simp only [blockLen, Config.blockSize] at h
  simp only [Payload.base, Config.blockSize, BitVec.toNat_add, BitVec.toNat_ofNat, BitVec.toNat_setWidth]
  omega

theorem frameNow_getElem?_body {s : State} {k : Nat} (h : k < (bodyNow s).length) :
    (frameNow s)[k + 1]? = (bodyNow s)[k]? :=
  frameBytes_getElem?_body _ _ (by simpa only [bodyNow, frameBody_length] using h)

/-- In the payload the byte at hand is the payload's next one (R213). -/
theorem payload_getElem?_of_payloadByte? {s : State} {b : Byte} (hi : Inv s) (hs : StreamInv s)
    (hp : s.serPhase = .payload) (hb : s.payloadByte? = some b) :
    ((payloadNow s).bytes s)[s.serPos.toNat]? = some b := by
  obtain ⟨-, -, hlen, hsrc, hbase⟩ := hi.emission_params (by simp [hp])
  have hpos := hi.emission.payload hp
  rw [hlen, payload_bytes_length] at hpos
  cases hn : payloadNow s with
  | alloc =>
    rw [hn] at hsrc hpos
    simp only [State.payloadByte?, hsrc, Payload.src, Option.some.injEq] at hb
    rw [Payload.bytes, le32_getElem? hpos, ← hb, State.allocByte]
  | block i =>
    rw [hn] at hsrc hpos hbase
    simp only [State.payloadByte?, hsrc, Payload.src] at hb
    rw [Payload.size] at hpos
    rw [Payload.bytes, blockSlice, getElem?_imageBytes hpos, hs.held b hb, State.imgAddr, hbase, toNat_blockAddr hpos]

/-- At rest the checksum unit holds the checksum of the bytes it has loaded (R205). -/
theorem StreamInv.crc_eq {s : State} (hs : StreamInv s) (hn : s.serPhase ≠ .idle) (hc : s.crcCnt = 0#4) :
    s.crc = checksum ((bodyNow s).take (bytesLoaded s)) := by
  have h := hs.check hn
  rw [hc] at h
  exact h

/-- The byte presented to the link is the next one of the frame (R206, R211 to R214). -/
theorem frameNow_getElem?_of_txByte? {s : State} {b : Byte} (hi : Inv s) (hs : StreamInv s)
    (hb : s.txByte? = some b) : (frameNow s)[bytesTransferred s]? = some b := by
  have hn := serPhase_ne_idle_of_txByte? hb
  have hc := hi.crcCnt_eq_zero_of_txByte? hb
  have hbusy : s.crcBusy = false := by simp [State.crcBusy, hc]
  obtain ⟨hcmd, hlen, hlen', -, -⟩ := hi.emission_params hn
  cases hp : s.serPhase <;>
    simp only [State.txByte?, hp, hbusy, Bool.false_eq_true, if_false, Option.some.injEq] at hb <;>
    simp only [bytesTransferred, hp]
  case idle => cases hb
  case sof => rw [← hb]; rfl
  case cmd => rw [← hb, hcmd]; rfl
  case lenLo => rw [← hb, hlen]; rfl
  case lenHi => rw [← hb, hlen]; rfl
  case payload =>
    have hpos := hi.emission.payload hp
    rw [hlen'] at hpos
    have hbody : 3 + s.serPos.toNat < (bodyNow s).length := by
      rw [bodyNow, frameBody_length]
      omega
    rw [show 4 + s.serPos.toNat = 3 + s.serPos.toNat + 1 by omega, frameNow_getElem?_body hbody, bodyNow,
      frameBody_getElem?_payload]
    exact payload_getElem?_of_payloadByte? hi hs hp hb
  case fcs =>
    have hall : (bodyNow s).length ≤ bytesLoaded s := by
      simp only [bodyNow, frameBody_length, bytesLoaded, hp]
      omega
    rw [hlen', frameNow, frameBytes_getElem?_fcs, ← hb, hs.crc_eq hn hc, List.take_of_length_le hall, bodyNow]
  case eof => rw [← hb, hlen', frameNow, frameBytes_getElem?_end]

end Sys2Proof.Safety
end

section
/-! The serializer and the checksum unit keep the stream's invariant (R203, R206 to R215). -/

namespace Sys2Proof.Safety

open Sys2Proof.Machine

/-- `t` is `s` after the transfer of byte `b` within its frame: one byte more of the frame has transferred, and the
checksum unit has loaded it where the check sequence covers it (R211 to R214). -/
structure ByteSent (b : Byte) (s t : State) : Prop where
  tx : t.tx = s.tx ++ [b]
  framesSent : t.framesSent = s.framesSent
  serHeld : t.serHeld = none
  transferred : bytesTransferred t = bytesTransferred s + 1
  check : bytesLoaded t = bytesLoaded s ∧ t.crc = s.crc ∧ t.crcCnt = s.crcCnt ∨
    bytesTransferred s = bytesLoaded s + 1 ∧ bytesLoaded s < (bodyNow s).length ∧
      bytesLoaded t = bytesLoaded s + 1 ∧ t.crc = s.crc ^^^ b ∧ t.crcCnt = 8#4

/-- The end of a frame: its last byte has transferred, and it is counted (R211). -/
structure FrameEnded (b : Byte) (s t : State) : Prop where
  tx : t.tx = s.tx ++ [b]
  framesSent : t.framesSent = s.framesSent + 1#32
  serPhase : t.serPhase = .idle
  transferred : bytesTransferred s + 1 = (frameNow s).length

/-- What the transfer of a presented byte does. -/
theorem serTransfer_next {b : Byte} {s t : State} (hi : Inv s) (hb : s.txByte? = some b)
    (h : serTransfer b s = .next t) : ByteSent b s t ∨ FrameEnded b s t := by
  have hn := serPhase_ne_idle_of_txByte? hb
  have hc := hi.crcCnt_eq_zero_of_txByte? hb
  have he := hi.emission
  obtain ⟨-, -, hlen, -, -⟩ := hi.emission_params hn
  cases hp : s.serPhase with
  | idle => exact absurd hp hn
  | sof =>
    simp only [serTransfer, hp] at h
    rw [crcCycle_of_not_busy (by exact hc)] at h
    cases h
    refine .inl ⟨rfl, rfl, hi.serHeld_eq_none (by simp [hp]), ?_, .inl ⟨?_, rfl, rfl⟩⟩ <;>
      simp only [bytesTransferred, bytesLoaded, hp]
  | cmd | lenLo =>
    simp only [serTransfer, hp] at h
    rw [crcCycle_load b (by exact hc)] at h
    cases h
    refine .inl ⟨rfl, rfl, hi.serHeld_eq_none (by simp [hp]), ?_, .inr ⟨?_, ?_, ?_, rfl, rfl⟩⟩ <;>
      simp [bytesTransferred, bytesLoaded, hp, bodyNow]
  | lenHi =>
    have hpos := he.header (.inr (.inr (.inr hp)))
    simp only [serTransfer, hp] at h
    rw [crcCycle_load b (by exact hc)] at h
    cases h
    refine .inl ⟨rfl, rfl, hi.serHeld_eq_none (by simp [hp]), ?_, .inr ⟨?_, ?_, ?_, rfl, rfl⟩⟩
    · by_cases hl : s.serLen = 0#16 <;> simp [bytesTransferred, hp, hpos, hl]
    · simp [bytesTransferred, bytesLoaded, hp]
    · simp [bytesLoaded, bodyNow, hp]
    · by_cases hl : s.serLen = 0#16 <;> simp [bytesLoaded, hp, hpos, hl]
  | payload =>
    have hlt := he.payload hp
    have hnext : (s.serPos + 1#16).toNat = s.serPos.toNat + 1 := by
      have := s.serLen.isLt
      simp only [BitVec.toNat_add, BitVec.toNat_ofNat]
      omega
    simp only [serTransfer, hp] at h
    rw [crcCycle_load b (by exact hc)] at h
    cases h
    refine .inl ⟨rfl, rfl, rfl, ?_, .inr ⟨?_, ?_, ?_, rfl, rfl⟩⟩
    · by_cases hl : s.serPos + 1#16 = s.serLen
      · simp [bytesTransferred, hp, hl, ← hnext, Nat.add_assoc]
      · simp only [bytesTransferred, hp, hl, if_false, hnext, Nat.add_assoc]
    · simp only [bytesTransferred, bytesLoaded, hp]
      omega
    · simp only [bytesLoaded, hp, bodyNow, frameBody_length]
      omega
    · by_cases hl : s.serPos + 1#16 = s.serLen
      · simp [bytesLoaded, hp, hl, ← hnext, Nat.add_assoc]
      · simp only [bytesLoaded, hp, hl, if_false, hnext, Nat.add_assoc]
  | fcs =>
    simp only [serTransfer, hp] at h
    rw [crcCycle_of_not_busy (by exact hc)] at h
    cases h
    refine .inl ⟨rfl, rfl, hi.serHeld_eq_none (by simp [hp]), ?_, .inl ⟨?_, rfl, rfl⟩⟩ <;>
      simp only [bytesTransferred, bytesLoaded, hp, txEmit_serLen]
    omega
  | eof =>
    simp only [serTransfer, hp] at h
    rw [crcCycle_of_not_busy (by exact hc)] at h
    cases h
    refine .inr ⟨rfl, rfl, rfl, ?_⟩
    simp only [bytesTransferred, hp, frameNow, frameBytes_length]
    omega

/-- Where the session's registers stay, its frames are read from the state before. -/
theorem streamInv_of_sessionKept {s t : State} (hk : SessionKept s t)
    (stream : s.state.inSession = true → t.tx = sessionBytes s t.framesSent.toNat ++
      (sessionFrame s t.framesSent.toNat).take (bytesTransferred t))
    (check : t.serPhase ≠ .idle → crcBits t.crcCnt.toNat t.crc = checksum ((bodyNow s).take (bytesLoaded t)))
    (held : ∀ b, t.serHeld = some b → b = imageByte t.image t.imgAddr.toNat) : StreamInv t := by
  have hf := framesKept_of_sessionKept hk
  refine ⟨fun hin => ?_, ?_, held⟩
  · rw [sessionBytes_eq_of_framesKept hf, sessionFrame_eq_of_framesKept hf]
    exact stream (hk.state ▸ hin)
  · rw [← bodyNow_eq_of_sessionKept hk] at check
    exact check

/-- The transfer of a byte keeps the stream's invariant (R206, R215). -/
theorem streamInv_serTransfer {b : Byte} {s t : State} (hi : Inv s) (hs : StreamInv s) (hb : s.txByte? = some b)
    (h : serTransfer b s = .next t) : StreamInv t := by
  have hn := serPhase_ne_idle_of_txByte? hb
  have hin := hi.inSession_of_emitting hn
  have hf : s.framesSent.toNat + 1 = framesBegun s := by simpa [FramesCounted, hn] using hi.frames
  have hk := sessionKept_of_serTransfer h
  have hbyte := frameNow_getElem?_of_txByte? hi hs hb
  have htx : s.tx ++ [b] =
      sessionBytes s s.framesSent.toNat ++ (frameNow s).take (bytesTransferred s + 1) := by
    rw [hs.tx_eq_of_emitting hi hn, List.take_add_one, hbyte, Option.toList_some, List.append_assoc]
  obtain ht | ht := serTransfer_next hi hb h
  · refine streamInv_of_sessionKept hk (fun _ => ?_) (fun _ => ?_) (by simp [ht.serHeld])
    · rw [ht.tx, htx, ht.framesSent, ht.transferred, sessionFrame_framesSent hin hf]
    · obtain ⟨hl, hcrc, hcnt⟩ | ⟨hpos, hlt, hl, hcrc, hcnt⟩ := ht.check
      · rw [hl, hcrc, hcnt]
        exact hs.check hn
      · rw [hpos, frameNow_getElem?_body hlt] at hbyte
        rw [hl, hcrc, hcnt, hs.crc_eq hn (hi.crcCnt_eq_zero_of_txByte? hb), List.take_add_one, hbyte,
          Option.toList_some]
        exact (checksum_append_singleton _ b).symm
  · refine streamInv_of_idle (inv_serTransfer hi hb h) ht.serPhase ?_
    rw [ht.tx, htx, ht.transferred, List.take_length, ht.framesSent,
      sessionBytes_eq_of_framesKept (framesKept_of_sessionKept hk), sessionBytes_framesSent_add_one hin hf]

/-- The image port's answer is the byte at `img_addr` (R207). -/
theorem streamInv_imageAnswer {s t : State} (hs : StreamInv s) (h : imageAnswer s = .next t) : StreamInv t := by
  obtain ⟨-, rfl⟩ := imageAnswer_next h
  have hk : SessionKept s { s with serHeld := some (imageByte s.image s.imgAddr.toNat) } := by constructor <;> rfl
  exact streamInv_of_sessionKept hk hs.stream hs.check fun b hb => (Option.some.inj hb).symm

/-- One bit of the checksum, or none: what it is on its way to stays (R203). -/
theorem streamInv_crcCycle_none {s t : State} (hs : StreamInv s) (h : crcCycle false none s = .next t) :
    StreamInv t := by
  have hk := sessionKept_of_crcCycle h
  obtain ⟨hf, -⟩ | ⟨-, b, hb, -⟩ | ⟨-, -, hbusy, rfl⟩ | ⟨-, -, -, rfl⟩ := crcCycle_next h
  · cases hf
  · cases hb
  · have hc : s.crcCnt ≠ 0#4 := by simpa [State.crcBusy] using hbusy
    have hcnt : s.crcCnt.toNat = (s.crcCnt - 1#4).toNat + 1 := by bv_omega
    have hcheck := hs.check
    rw [hcnt] at hcheck
    exact streamInv_of_sessionKept hk hs.stream hcheck hs.held
  · exact hs

theorem streamInv_serCycle {ready ack : Bool} {s t : State} (hi : Inv s) (hs : StreamInv s)
    (h : serCycle ready ack s = .next t) : StreamInv t := by
  obtain ⟨b, hb, -, h⟩ | ⟨-, h⟩ := serCycle_next h
  · exact streamInv_serTransfer hi hs hb h
  · obtain ⟨u, ⟨-, hu⟩ | ⟨-, rfl⟩, ht⟩ := serWait_next h
    · exact streamInv_crcCycle_none (streamInv_imageAnswer hs hu) ht
    · exact streamInv_crcCycle_none hs ht

end Sys2Proof.Safety
end

section
/-! Every move keeps the stream's invariant (R15, R200). -/

namespace Sys2Proof.Safety

open Sys2Proof.Machine

theorem streamInv_resetFrom {s : State} (hi : Inv s) : StreamInv (resetFrom s) :=
  streamInv_of_ended (inv_resetFrom hi.memory hi.moves) rfl

/-- IMAGE_LEN is written in Idle only, out of a session (R185). -/
theorem streamInv_setImageLen {s : State} (hi : Inv s) (hst : s.state = .idle) (len : Word) :
    StreamInv { s with imageLen := len } :=
  streamInv_of_ended (hi.setImageLen hst len) (by rw [hst]; rfl)

theorem streamInv_exec {i : Instr} {s t : State} (hi : Inv s) (hs : StreamInv s)
    (hd : isAccessOrEvent i = true ∨ i = .reset) (h : exec i s = .next t) : StreamInv t := by
  cases i with
  | frameAllocateMemory => simp [isAccessOrEvent] at hd
  | frameBinaryBlock => simp [isAccessOrEvent] at hd
  | frameBinaryBlockLast len => simp [isAccessOrEvent] at hd
  | ackSuccess => exact streamInv_linkEvent hi hs h
  | ackError code => exact streamInv_linkEvent hi hs h
  | ackTimeout => exact streamInv_linkEvent hi hs h
  | hostStart ignored => exact streamInv_startSession hi hs h
  | hostCtrlNop ignored => cases h; exact hs
  | hostWriteImageLen len =>
    obtain ⟨hst, rfl⟩ | ⟨-, rfl⟩ := hostWriteImageLen_next h
    · exact streamInv_setImageLen hi hst len
    · exact hs
  | hostWriteIgnored off data => cases h; exact hs
  | hostRead off =>
    obtain ⟨-, rfl⟩ := hostRead_next h
    exact hs.setPorts _ _ _
  | reset => cases h; exact streamInv_resetFrom hi

theorem streamInv_hostCycle {p : PortsIn} {s t : State} (hi : Inv s) (hs : StreamInv s)
    (h : hostCycle p s = .next t) : StreamInv t := by
  obtain ⟨-, rfl⟩ | ⟨-, i, -, h⟩ := hostCycle_next h
  · exact hs
  · obtain h | ⟨hst, len, rfl⟩ | ⟨r, rfl⟩ | rfl := hostOpCycle_next h
    · exact streamInv_startSession hi hs h
    · exact streamInv_setImageLen hi hst len
    · exact hs.setPorts _ _ _
    · exact hs

theorem streamInv_linkCycle {p : PortsIn} {s t : State} (hi : Inv s) (hs : StreamInv s)
    (h : linkCycle p s = .next t) : StreamInv t := by
  obtain rfl | ⟨ha, r, -, h⟩ := linkCycle_next h
  · exact hs
  · exact streamInv_takeEvent hi hs (hi.ackWait_eq ▸ ha) h

/-- A clock cycle keeps the stream's invariant: each of its parts does, on a state that meets both (R200, R249). -/
theorem streamInv_cycle {p : PortsIn} {s t : State} (hi : Inv s) (hs : StreamInv s) (h : cycle p s = .next t) :
    StreamInv t := by
  have hi₀ : Inv { s with linkReady := p.linkReady } := hi.setLinkReady _
  obtain ⟨-, rfl⟩ | ⟨-, u, v, hu, hv, ht⟩ := cycle_next h
  · exact streamInv_resetFrom hi₀
  · have hiu := inv_hostCycle hi₀ hu
    have hsu := streamInv_hostCycle hi₀ (hs.setPorts _ _ _) hu
    have hsv := streamInv_linkCycle hiu hsu hv
    obtain ⟨-, rfl⟩ | ⟨-, ht⟩ := ht
    · exact hsv
    · exact streamInv_serCycle (inv_linkCycle hiu hv) hsv ht

theorem streamInv_runWord {w : OpWord} {s t : State} (hi : Inv s) (hs : StreamInv s)
    (hd : Input.delivered (.op w) = true) (h : runWord w s = .next t) : StreamInv t := by
  obtain ⟨i, hw, h⟩ := runWord_next h
  exact streamInv_exec hi hs (isAccessOrEvent_of_decode hd hw) h

theorem streamInv_runInput {i : Input} {s t : State} (hi : Inv s) (hs : StreamInv s)
    (hd : Input.delivered i = true) (h : runInput i s = .next t) : StreamInv t := by
  cases i with
  | op w => exact streamInv_runWord hi hs hd h
  | rx raw => exact streamInv_runWord hi hs rfl h
  | access write width offset data =>
    obtain ⟨w, -, h⟩ := runAccess_next h
    exact streamInv_runWord hi hs rfl h
  | linkReady level => cases h; exact hs.setPorts _ _ _
  | loadImage addr bytes =>
    have ht := inv_runInput hi hd h
    obtain ⟨hn, -, rfl⟩ := hostLoad_next h
    exact streamInv_of_ended ht hn
  | clock ports => exact streamInv_cycle hi hs h

theorem streamInv_step {s t : State} (hi : Inv s) (hs : StreamInv s) (h : step s = .next t) : StreamInv t := by
  obtain ⟨-, rfl⟩ | ⟨i, rest, hin, h⟩ := step_next h
  · exact hs
  · exact streamInv_runInput (hi.takeInput hin) (hs.setPorts _ _ _) (hi.moves i (hin ▸ List.mem_cons_self)) h

end Sys2Proof.Safety

namespace Sys2Proof.Proofs

open Sys2Proof.Machine Sys2Proof.Safety

/-- Settles O51: a transition emits its frame after whole frames (`streamInv_of_emitFrame`), and the byte that the
serializer transfers is the frame's next one (`frameNow_getElem?_of_txByte?`). -/
theorem stepKeepsSessionStream : Obligations.StepKeepsSessionStream :=
  fun _ _ hi hs h => streamInv_step hi hs h

end Sys2Proof.Proofs
end

section
/-! The encoder and the decoder are inverse (R80 to R98): the fields of a word make up the word, what is encoded is
decoded again, and what decodes is encoded again. -/

namespace Sys2Proof

/-! The word of the fields read from a word is that word. -/

theorem frameHeader_fields {header : BitVec 32} (h : header.extractLsb' 0 8 = Config.startMarker) :
    frameHeader (header.extractLsb' 8 8) (header.extractLsb' 16 16) = header := by
  refine BitVec.eq_of_getLsbD_eq fun k hk => ?_
  rw [frameHeader_bit, ← h]
  simp only [BitVec.getLsbD_extractLsb']
  split_ifs with h₁ h₂
  · simp [h₁]
  · simp [h₂, show 8 + (k - 8) = k by omega]
  · simp [show k - 8 - 8 < 16 by omega, show 16 + (k - 8 - 8) = k by omega]

theorem rxevWord_fields (event : BitVec 9) :
    rxevWord (event.extractLsb' 8 1) (event.extractLsb' 0 8) = event := by
  refine BitVec.eq_of_getLsbD_eq fun k hk => ?_
  rw [rxevWord_bit]
  simp only [BitVec.getLsbD_extractLsb']
  split_ifs with h₁
  · simp [h₁]
  · simp [show k - 8 < 1 by omega, show 8 + (k - 8) = k by omega]

theorem hostopWord_fields (op : BitVec 39) :
    hostopWord (op.extractLsb' 38 1) (op.extractLsb' 32 6) (op.extractLsb' 0 32) = op := by
  refine BitVec.eq_of_getLsbD_eq fun k hk => ?_
  rw [hostopWord_bit]
  simp only [BitVec.getLsbD_extractLsb']
  split_ifs with h₁ h₂
  · simp [h₁]
  · simp [h₂, show 32 + (k - 32) = k by omega]
  · simp [show k - 32 - 6 < 1 by omega, show 38 + (k - 32 - 6) = k by omega]

theorem ctrlData_fields (data : Word) : (data.extractLsb' 1 31 ++ data.extractLsb' 0 1 : BitVec 32) = data := by
  refine BitVec.eq_of_getLsbD_eq fun k hk => ?_
  rw [ctrlData_bit]
  simp only [BitVec.getLsbD_extractLsb']
  split_ifs with h₁
  · simp [h₁]
  · simp [show k - 1 < 31 by omega, show 1 + (k - 1) = k by omega]

/-- A one-bit field that is not 1 is 0: the decoder tests V and W for 1 only (R88, R96). -/
theorem eq_zero_of_ne_one {v : BitVec 1} (h : v ≠ 1#1) : v = 0#1 :=
  (BitVec.eq_zero_or_eq_one v).resolve_right h

/-! What each word with given fields decodes to (R89, R88, R96). -/

theorem decode_lastBlockHeader (len : BitVec 16) :
    decode (.frame (frameHeader Config.cmdBinaryBlockLast len)) = .ok (.frameBinaryBlockLast len) := by
  simp [decode, decodeFrame]

theorem decode_errorEvent {code : Byte} (h : code ≠ Config.ackSuccess) :
    decode (.rxev (rxevWord 1#1 code)) = .ok (.ackError code) :=
  decode_rxevOfRead_error [] h

theorem decode_ctrlStart (ignored : BitVec 31) :
    decode (.hostop (hostopWord 1#1 0x00#6 (ignored ++ 1#1))) = .ok (.hostStart ignored) := by
  simp [decode, decodeHostop, offsetAligned]

theorem decode_ctrlNop (ignored : BitVec 31) :
    decode (.hostop (hostopWord 1#1 0x00#6 (ignored ++ 0#1))) = .ok (.hostCtrlNop ignored) := by
  simp [decode, decodeHostop, offsetAligned]

theorem decode_writeImageLen (len : Word) :
    decode (.hostop (hostopWord 1#1 0x08#6 len)) = .ok (.hostWriteImageLen len) := by
  simp [decode, decodeHostop, offsetAligned]

theorem offsetWriteIgnored_iff {off : BitVec 6} :
    offsetWriteIgnored off = true ↔ offsetAligned off = true ∧ off ≠ 0x00#6 ∧ off ≠ 0x08#6 := by
  simp [offsetWriteIgnored, and_assoc]

theorem decode_writeIgnored {off : BitVec 6} (data : Word) (h : offsetWriteIgnored off = true) :
    decode (.hostop (hostopWord 1#1 off data)) = .ok (.hostWriteIgnored off data) := by
  obtain ⟨ha, hctrl, hlen⟩ := offsetWriteIgnored_iff.1 h
  simp [decode, decodeHostop, ha, hctrl, hlen]

/-- The decoder undoes the encoder on every operation of the table. -/
theorem decode_encode {i : Instr} (h : WellFormed i) : decode (encode i) = .ok i := by
  cases i with
  | frameAllocateMemory => rfl
  | frameBinaryBlock => rfl
  | frameBinaryBlockLast len => exact decode_lastBlockHeader len
  | ackSuccess => rfl
  | ackError code => exact decode_errorEvent (by simpa [WellFormed, Instr.wellFormed] using h)
  | ackTimeout => rfl
  | hostStart ignored => exact decode_ctrlStart ignored
  | hostCtrlNop ignored => exact decode_ctrlNop ignored
  | hostWriteImageLen len => exact decode_writeImageLen len
  | hostWriteIgnored off data => exact decode_writeIgnored data h
  | hostRead off => exact decode_read (by simpa [WellFormed, Instr.wellFormed, offsetAligned_eq_decide] using h)
  | reset => rfl

/-- `w` is the word of `i`, and `i` is an operation of the table but for the Length that a BinaryBlockLast header leaves
open (log 11). -/
def IsWordOf (i : Instr) (w : OpWord) : Prop :=
  encode i = w ∧ ((∀ len, i ≠ .frameBinaryBlockLast len) → WellFormed i)

theorem isWordOf_of_wellFormed {i : Instr} {w : OpWord} (hw : encode i = w) (hi : WellFormed i) : IsWordOf i w :=
  ⟨hw, fun _ => hi⟩

theorem isWordOf_of_decodeFrame {header : BitVec 32} {i : Instr} (h : decodeFrame header = .ok i) :
    IsWordOf i (.frame header) := by
  simp only [decodeFrame] at h
  split_ifs at h with hs ha hl hb hl hc <;> cases h
  all_goals have hw := frameHeader_fields (not_not.1 hs)
  · exact isWordOf_of_wellFormed (by rw [← hw, ha, hl]; rfl) rfl
  · exact isWordOf_of_wellFormed (by rw [← hw, hb, hl]; rfl) rfl
  · exact ⟨by rw [encode, ← hc, hw], fun hn => absurd rfl (hn _)⟩

theorem isWordOf_of_decodeRxev {event : BitVec 9} {i : Instr} (h : decodeRxev event = .ok i) :
    IsWordOf i (.rxev event) := by
  have hw := rxevWord_fields event
  simp only [decodeRxev] at h
  split_ifs at h with hv hs hs <;> cases h
  · exact isWordOf_of_wellFormed (by rw [← hw, hv, hs]; rfl) rfl
  · exact isWordOf_of_wellFormed (by rw [encode, ← hv, hw]) (by simpa [WellFormed, Instr.wellFormed] using hs)
  · exact isWordOf_of_wellFormed (by rw [← hw, eq_zero_of_ne_one hv, hs]; rfl) rfl

theorem isWordOf_of_decodeHostop {op : BitVec 39} {i : Instr} (h : decodeHostop op = .ok i) :
    IsWordOf i (.hostop op) := by
  have hw := hostopWord_fields op
  have hd := ctrlData_fields (op.extractLsb' 0 32)
  simp only [decodeHostop] at h
  split_ifs at h with ha hwr hctrl hst hlen hz <;> cases h
  all_goals rw [Bool.not_eq_false] at ha
  · rw [hst] at hd
    exact isWordOf_of_wellFormed (by rw [encode, hd, ← hctrl, ← hwr, hw]) rfl
  · rw [eq_zero_of_ne_one hst] at hd
    exact isWordOf_of_wellFormed (by rw [encode, hd, ← hctrl, ← hwr, hw]) rfl
  · exact isWordOf_of_wellFormed (by rw [encode, ← hlen, ← hwr, hw]) rfl
  · exact isWordOf_of_wellFormed (by rw [encode, ← hwr, hw]) (offsetWriteIgnored_iff.2 ⟨ha, hctrl, hlen⟩)
  · exact isWordOf_of_wellFormed (by rw [encode, ← hz, ← eq_zero_of_ne_one hwr, hw]) ha

/-- The encoder undoes the decoder on every word that decodes. -/
theorem isWordOf_of_decode {w : OpWord} {i : Instr} (h : decode w = .ok i) : IsWordOf i w := by
  cases w with
  | frame header => exact isWordOf_of_decodeFrame h
  | rxev event => exact isWordOf_of_decodeRxev h
  | hostop op => exact isWordOf_of_decodeHostop h
  | pin rst =>
    simp only [decode, decodePin] at h
    split_ifs at h with hr
    cases h
    exact isWordOf_of_wellFormed (by rw [hr]; rfl) rfl

/-- A table word decodes to the operation whose encoding it is. -/
theorem decodeTableWord_eq_some_of_encode {nbits w : Nat} {i : Instr} (hi : WellFormed i)
    (hw : encode i = tableWord nbits w) : decodeTableWord nbits w = some i :=
  Machine.decodeTableWord_eq_some_iff.2 (hw ▸ decode_encode hi)

end Sys2Proof

namespace Sys2Proof.Proofs

/-- Settles O46: each operation's word holds its operands in the fields the decoder reads. -/
theorem decodeOfEncode : Obligations.DecodeOfEncode := fun _ h => decode_encode h

/-- Settles O47: the fields that the decoder reads make up the whole word. -/
theorem encodeOfDecode : Obligations.EncodeOfDecode := fun _ _ h => isWordOf_of_decode h

/-- Settles O48: each of the words is the encoding of its operation. -/
theorem specWordsDecode : Obligations.SpecWordsDecode := by
  refine ⟨?_, ?_, ?_, ?_, ?_, ?_, ?_, ?_, ?_, ?_, ?_, ?_⟩
  all_goals exact decodeTableWord_eq_some_of_encode (by decide) (by decide)

end Sys2Proof.Proofs
end

section
/-! The frame operations away from their control points (R90, R165; log 7). -/

namespace Sys2Proof.Machine

theorem exec_frameAllocateMemory_elsewhere {s : State} (h : s.allocationDue = false) :
    exec .frameAllocateMemory s = .next s := by
  simp [exec, execFrameAllocateMemory, h]

theorem exec_frameBinaryBlock_elsewhere {s : State} (h : s.blockDue = false) :
    exec .frameBinaryBlock s = .next s := by
  simp [exec, execFrameBinaryBlock, h]

theorem exec_frameBinaryBlockLast_elsewhere {s : State} {len : BitVec 16}
    (h : s.lastBlockDue = false ∨ len.toNat ≠ blockLen s.imageLen.toNat s.blockIndex.toNat) :
    exec (.frameBinaryBlockLast len) s = .next s := by
  obtain h | h := h <;> simp [exec, execFrameBinaryBlockLast, h]

theorem not_inSession_of_terminal {u : UploadState} (h : u.terminal = true) : u.inSession = false := by
  cases u with
  | idle => cases h
  | allocateSent => cases h
  | uploading => cases h
  | complete => rfl
  | failed => rfl

theorem allocationDue_of_ne_idle {s : State} (h : s.state ≠ .idle) : s.allocationDue = false := by
  simp [State.allocationDue, h]

theorem blockDue_of_not_inSession {s : State} (h : s.state.inSession = false) : s.blockDue = false := by
  simp [State.blockDue, h]

theorem lastBlockDue_of_not_inSession {s : State} (h : s.state.inSession = false) : s.lastBlockDue = false := by
  simp [State.lastBlockDue, h]

theorem blockDue_of_no_blocks {s : State} (h : s.blockCount = 0#24) : s.blockDue = false := by
  simp [State.blockDue, h]

theorem lastBlockDue_of_no_blocks {s : State} (h : s.blockCount = 0#24) : s.lastBlockDue = false := by
  simp [State.lastBlockDue, h]

end Sys2Proof.Machine

namespace Sys2Proof.Proofs

open Sys2Proof.Machine

/-- Settles O34: each operation tests its control point, which asks for Idle or for a session with a block left. -/
theorem frameOperationsElsewhereDoNothing : Obligations.FrameOperationsElsewhereDoNothing := by
  refine fun s => ⟨exec_frameAllocateMemory_elsewhere, exec_frameBinaryBlock_elsewhere,
    fun _ => exec_frameBinaryBlockLast_elsewhere, fun ht => ?_,
    fun hb => ⟨blockDue_of_no_blocks hb, lastBlockDue_of_no_blocks hb⟩⟩
  have hidle : s.state ≠ .idle := by
    intro hs
    simp [hs, UploadState.terminal] at ht
  have hin := not_inSession_of_terminal ht
  exact ⟨allocationDue_of_ne_idle hidle, blockDue_of_not_inSession hin, lastBlockDue_of_not_inSession hin⟩

end Sys2Proof.Proofs
end

section
/-! The blocks of the image laid end to end, and the frames of a whole session (R90, R166, R167). -/

namespace Sys2Proof.Safety

open Sys2Proof.Machine

/-- The first `n` blocks, laid end to end, are the image up to the end of the last of them or its own end. -/
theorem flatten_blocks (m : Memory) (len n : Nat) :
    ((List.range n).map fun i => imageBytes m (i * 512) (blockLen len i)).flatten =
      imageBytes m 0 (min (n * 512) len) := by
  induction n with
  | zero => simp [imageBytes]
  | succ n ih =>
    have hlen : min ((n + 1) * 512) len = min (n * 512) len + blockLen len n := by
      simp only [blockLen, Config.blockSize]
      omega
    rw [List.range_succ, List.map_append, List.flatten_append, ih, hlen, imageBytes_add, List.map_singleton,
      List.flatten_singleton]
    obtain h | h := Nat.le_total (n * 512) len
    · rw [Nat.min_eq_left h, Nat.zero_add]
    · have hz : blockLen len n = 0 := by
        simp only [blockLen, Config.blockSize]
        omega
      rw [hz, imageBytes, imageBytes]

/-- The payloads of the first `n` block frames (R166). -/
def blockPayloads (s : State) (n : Nat) : List (List Byte) := (List.range n).map (blockSlice s)

@[simp] theorem blockPayloads_length (s : State) (n : Nat) : (blockPayloads s n).length = n := by
  simp [blockPayloads]

theorem blockPayloads_succ (s : State) (n : Nat) : blockPayloads s (n + 1) = blockPayloads s n ++ [blockSlice s n] := by
  simp [blockPayloads, List.range_succ]

/-- The payloads of all the blocks are the image (R167). -/
theorem flatten_blockPayloads (s : State) :
    (blockPayloads s (blockCountOf s.imageLen.toNat)).flatten = imageBytes s.image 0 s.imageLen.toNat := by
  have hmin : min (blockCountOf s.imageLen.toNat * 512) s.imageLen.toNat = s.imageLen.toNat := by
    rw [blockCountOf]
    omega
  exact (flatten_blocks s.image s.imageLen.toNat _).trans (by rw [hmin])

/-- The allocation frame, then a frame with command 0x02 for each of the first `n` blocks, when more blocks follow. -/
theorem sessionBytes_of_lt {s : State} {n : Nat} (h : n < s.blockCount.toNat) :
    sessionBytes s (n + 1) =
      sessionFrame s 0 ++ ((blockPayloads s n).map (frameBytes Config.cmdBinaryBlock)).flatten := by
  induction n with
  | zero => simp [sessionBytes, blockPayloads]
  | succ n ih =>
    have hcmd : blockCmd s.blockCount.toNat n = Config.cmdBinaryBlock := if_neg (by omega)
    rw [sessionBytes, ih (by omega), blockPayloads_succ]
    simp [sessionFrame, hcmd]

/-- The frames of a whole session (R90): the last block's has command 0x03, the others' 0x02. -/
theorem sessionBytes_whole {s : State} {n : Nat} (h : s.blockCount.toNat = n) :
    sessionBytes s (n + 1) =
      sessionFrame s 0 ++ ((blockPayloads s n).dropLast.map (frameBytes Config.cmdBinaryBlock)).flatten ++
        ((blockPayloads s n).getLast?.toList.map (frameBytes Config.cmdBinaryBlockLast)).flatten := by
  cases n with
  | zero => simp [sessionBytes, blockPayloads]
  | succ n =>
    have hcmd : blockCmd s.blockCount.toNat n = Config.cmdBinaryBlockLast := if_pos h.symm
    rw [sessionBytes, sessionBytes_of_lt (by omega), blockPayloads_succ]
    simp [sessionFrame, hcmd]

end Sys2Proof.Safety
end

section
/-! START and the success acknowledgments as equations (R170, R174 to R177). -/

namespace Sys2Proof.Machine

open Sys2Proof.Safety

/-- START with a ready link (R170). -/
theorem exec_hostStart_ready {s : State} (ignored : BitVec 31) (hs : s.state = .idle) (hp : s.serPhase = .idle)
    (hr : s.linkReady = true) (hl : s.imageLen.toNat ≤ Config.maxImageLen) :
    exec (.hostStart ignored) s = .next (moveTo .allocateSent
      (withFrame Config.cmdAllocateMemory (le32 (latch s).allocSize) .alloc 0 (latch s))) := by
  have he := emitAllocate_eq (s := latch s) hp
  simp [exec, execHostStart, startSession, hs, hr, Nat.not_lt.2 hl, he]

/-- A success acknowledgment that asks for block `i` (R174, R176). -/
theorem onSuccess_block {s : State} {i : BlockNum} (hp : s.serPhase = .idle) (hb : i.toNat < s.blockCount.toNat)
    (hbegin : i.toNat * 512 < s.imageLen.toNat)
    (hn : s.state = .allocateSent ∧ i = 0#24 ∨ s.state = .uploading ∧ i.toNat = s.blockIndex.toNat + 1) :
    onSuccess .transaction s = .next (moveTo .uploading
      (withFrame (blockCmd s.blockCount.toNat i.toNat) (blockSlice s i.toNat) .image (i.toNat * 512)
        (atBlock i s))) := by
  have he := emitBlock_eq (s := atBlock i s) hp hbegin
  obtain ⟨hs, rfl⟩ | ⟨hs, hi⟩ := hn
  · have hne : s.blockCount ≠ 0#24 := by bv_omega
    simp only [onSuccess, hs, hne, if_false]
    exact congrArg (andThen · _) he
  · have hnext : s.blockIndex + 1#24 = i := by bv_omega
    simp only [onSuccess, hs, hnext, ← hi, hb, if_true, he]
    exact congrArg _ (moveTo_eq_self (s := withFrame _ _ _ _ (atBlock i s)) hs).symm

/-- The success acknowledgment after the last frame of the session (R175, R177). -/
theorem onSuccess_last {lv : Level} {s : State}
    (hall : s.state = .allocateSent ∧ s.blockCount = 0#24 ∨
      s.state = .uploading ∧ s.blockIndex.toNat + 1 = s.blockCount.toNat) :
    onSuccess lv s = .next (complete s) := by
  obtain ⟨hs, hb⟩ | ⟨hs, hb⟩ := hall
  · simp [onSuccess, hs, hb]
  · simp [onSuccess, hs, hb]

/-- ACK_SUCCESS answers an open window (R138, R178). -/
theorem exec_ackSuccess_of_windowOpen {s : State} (hw : s.windowOpen = true) :
    exec .ackSuccess s = onSuccess .transaction (closeWindow s) := by
  simp [exec, execAckSuccess, parseAck, linkEvent, hw, takeEvent]

end Sys2Proof.Machine
end

section
/-! The session that START and the success acknowledgments drive (R77, R90, R188). -/

namespace Sys2Proof.Safety

open Sys2Proof.Machine

/-- `t` is a session started from `s`, with `n` frames sent and the window of the last of them open. -/
structure FramesSentFrom (s : State) (n : Nat) (t : State) : Prop where
  kept : FramesKept (latch s) t
  errKind : t.errKind = s.errKind
  serPhase : t.serPhase = .idle
  point : t.state = .allocateSent ∧ n = 1 ∨ t.state = .uploading ∧ n = t.blockIndex.toNat + 2
  framesSent : t.framesSent.toNat = n
  tx : t.tx = s.tx ++ sessionBytes (latch s) n

theorem FramesSentFrom.windowOpen {s t : State} {n : Nat} (h : FramesSentFrom s n t) : t.windowOpen = true := by
  refine windowOpen_iff.2 ⟨inSession_iff.2 ?_, h.serPhase⟩
  exact h.point.imp And.left And.left

section
variable {s : State} (hl : s.imageLen.toNat ≤ Config.maxImageLen)
include hl

theorem toNat_latch_blockCount : (latch s).blockCount.toNat = blockCountOf s.imageLen.toNat := by
  obtain ⟨-, hcount, -⟩ := latched_latch hl
  exact hcount

theorem framesSentFrom_start (ignored : BitVec 31) (hs : s.state = .idle) (hp : s.serPhase = .idle)
    (hr : s.linkReady = true) : ∃ t, exec (.hostStart ignored) s = .next t ∧ FramesSentFrom s 1 t := by
  refine ⟨_, exec_hostStart_ready ignored hs hp hr hl, ⟨rfl, rfl, rfl, rfl⟩, rfl, hp, .inl ⟨rfl, rfl⟩, rfl, ?_⟩
  simp [withFrame, sessionBytes, sessionFrame]

theorem FramesSentFrom.toNat_blockCount {t : State} {n : Nat} (h : FramesSentFrom s n t) :
    t.blockCount.toNat = blockCountOf s.imageLen.toNat := by
  rw [h.kept.blockCount, toNat_latch_blockCount hl]

/-- An acknowledgment before the last one sends the next frame (R174, R176). -/
theorem FramesSentFrom.ack_sends {t : State} {n : Nat} (h : FramesSentFrom s n t)
    (hn : n ≤ blockCountOf s.imageLen.toNat) : ∃ u, exec .ackSuccess t = .next u ∧ FramesSentFrom s (n + 1) u := by
  have hcount := h.toNat_blockCount hl
  have hpoint := h.point
  obtain ⟨i, rfl⟩ : ∃ i : BlockNum, n = i.toNat + 1 := by
    have hlt := t.blockCount.isLt
    refine ⟨BitVec.ofNat 24 (n - 1), ?_⟩
    rw [BitVec.toNat_ofNat]
    omega
  have hb : i.toNat < t.blockCount.toNat := by omega
  have hbegin : i.toNat * 512 < t.imageLen.toNat := by
    rw [h.kept.imageLen]
    exact block_begins hn
  have hnext : t.state = .allocateSent ∧ i = 0#24 ∨ t.state = .uploading ∧ i.toNat = t.blockIndex.toNat + 1 :=
    hpoint.imp (And.imp_right fun hk => by bv_omega) (And.imp_right fun hk => by omega)
  have hsend := onSuccess_block (s := closeWindow t) h.serPhase hb hbegin hnext
  obtain ⟨hlen, hbc, hsize, himg⟩ := h.kept
  refine ⟨_, (exec_ackSuccess_of_windowOpen h.windowOpen).trans hsend, ⟨hlen, hbc, hsize, himg⟩, h.errKind,
    h.serPhase, .inr ⟨rfl, rfl⟩, ?_, ?_⟩
  · have hsent := h.framesSent
    simp only [moveTo_framesSent, withFrame, atBlock_framesSent, closeWindow_framesSent]
    bv_omega
  · calc t.tx ++ sessionFrame t (i.toNat + 1)
        = s.tx ++ sessionBytes (latch s) (i.toNat + 1) ++ sessionFrame (latch s) (i.toNat + 1) := by
          rw [h.tx, sessionFrame_eq_of_framesKept h.kept]
      _ = s.tx ++ sessionBytes (latch s) (i.toNat + 1 + 1) := List.append_assoc ..

/-- The acknowledgments of all the frames but the last, one after the other, and then the last one. -/
theorem FramesSentFrom.acks_complete {t : State} {n k : Nat} (h : FramesSentFrom s n t)
    (hn : n + k = blockCountOf s.imageLen.toNat + 1) :
    ∃ u, FramesSentFrom s (blockCountOf s.imageLen.toNat + 1) u ∧
      execAll (List.replicate (k + 1) .ackSuccess) t = .next (complete (closeWindow u)) := by
  induction k generalizing t n with
  | zero =>
    obtain rfl : n = blockCountOf s.imageLen.toNat + 1 := hn
    have hcount := h.toNat_blockCount hl
    have hall : t.state = .allocateSent ∧ t.blockCount = 0#24 ∨
        t.state = .uploading ∧ t.blockIndex.toNat + 1 = t.blockCount.toNat :=
      h.point.imp (And.imp_right fun hk => by bv_omega) (And.imp_right fun hk => by omega)
    have hlast := (exec_ackSuccess_of_windowOpen h.windowOpen).trans (onSuccess_last hall)
    exact ⟨t, h, by simp [execAll, hlast]⟩
  | succ k ih =>
    obtain ⟨u, hu, hsent⟩ := h.ack_sends hl (by omega)
    obtain ⟨v, hv, hrun⟩ := ih hsent (by omega)
    refine ⟨v, hv, ?_⟩
    rw [List.replicate_succ, execAll, hu]
    exact hrun

end

end Sys2Proof.Safety

namespace Sys2Proof.Proofs

open Sys2Proof.Machine Sys2Proof.Safety

/-- Settles O53: by induction on the acknowledgments still to come, with the frames sent so far on TX. -/
theorem sessionUploadsWholeImage : Obligations.SessionUploadsWholeImage := by
  intro s ignored hs hp hr hl
  obtain ⟨t, ht, hsent⟩ := framesSentFrom_start hl ignored hs hp hr
  obtain ⟨u, hu, hrun⟩ := hsent.acks_complete hl (Nat.add_comm 1 _)
  have hlen := blockPayloads_length (latch s) (blockCountOf s.imageLen.toNat)
  refine ⟨complete (closeWindow u), blockPayloads (latch s) (blockCountOf s.imageLen.toNat), ?_, rfl, rfl, hu.errKind,
    hu.kept.image, hlen, ?_, flatten_blockPayloads (latch s), ?_⟩
  · rw [execAll, ht]
    exact hrun
  · rw [hlen]
    exact hu.framesSent
  · rw [hlen]
    simp only [complete_tx, closeWindow_tx, hu.tx, sessionBytes_whole (toNat_latch_blockCount hl), List.append_assoc]
    rfl

end Sys2Proof.Proofs
end

section
/-! The laws of the checksum (R117 to R122): CRC_BIT is linear and takes only 0 and 0xB3 to 0; CRC_BYTE and
CHECKSUM inherit both, one bit and one byte at a time. -/

namespace Sys2Proof.Machine

/-! CRC_BIT and its iteration. -/

/-- The exclusive or after the shift instead of before it (R118). -/
theorem crcBit_eq_shift_xor (c : Byte) : crcBit c = (c >>> 1) ^^^ (if c.getLsbD 0 then 0x59#8 else 0x00#8) := by
  unfold crcBit
  split
  · exact BitVec.ushiftRight_xor_distrib c Config.polynomial 1
  · exact BitVec.xor_zero.symm

theorem crcBit_xor (c d : Byte) : crcBit (c ^^^ d) = crcBit c ^^^ crcBit d := by
  have hmask : ∀ p q : Bool, (if p ^^ q then 0x59#8 else 0x00#8) =
      (if p then 0x59#8 else 0x00#8) ^^^ (if q then 0x59#8 else 0x00#8) := by decide
  rw [crcBit_eq_shift_xor, crcBit_eq_shift_xor, crcBit_eq_shift_xor, BitVec.getLsbD_xor, hmask,
    BitVec.ushiftRight_xor_distrib]
  ac_rfl

/-- The kernel of CRC_BIT: 0xB3 is the polynomial with bit 0 set, so the exclusive or leaves only the bit shifted
out. -/
theorem crcBit_eq_zero_iff (c : Byte) : crcBit c = 0#8 ↔ c = 0#8 ∨ c = 0xB3#8 := by
  revert c
  decide

theorem crcBits_zero (k : Nat) : crcBits k 0#8 = 0#8 := by
  induction k with
  | zero => rfl
  | succ k ih => exact ih

theorem crcBits_xor (k : Nat) (c d : Byte) : crcBits k (c ^^^ d) = crcBits k c ^^^ crcBits k d := by
  induction k generalizing c d with
  | zero => rfl
  | succ k ih => rw [crcBits, crcBit_xor, ih, crcBits, crcBits]

/-- Without bit 7 the kernel is 0 alone, and no CRC_BIT sets bit 7. -/
theorem eq_zero_of_crcBits_eq_zero {k : Nat} {c : Byte} (hc : c.getLsbD 7 = false) (h : crcBits k c = 0#8) :
    c = 0#8 := by
  induction k generalizing c with
  | zero => exact h
  | succ k ih =>
    obtain h0 | rfl := (crcBit_eq_zero_iff c).1 (ih (crcBit_bit_seven c) h)
    · exact h0
    · cases hc

/-! CRC_BYTE. -/

theorem crcByte_xor (c d b e : Byte) : crcByte (c ^^^ d) (b ^^^ e) = crcByte c b ^^^ crcByte d e := by
  rw [crcByte, crcByte, crcByte, ← crcBits_xor]
  congr 1
  ac_rfl

/-- The register fed with its own value is cleared (R120). -/
theorem crcByte_self (c : Byte) : crcByte c c = 0#8 := by
  rw [crcByte, BitVec.xor_self, crcBits_zero]

theorem eq_of_crcByte_eq_zero {c b : Byte} (hc : c.getLsbD 7 = false) (hb : b.getLsbD 7 = false)
    (h : crcByte c b = 0#8) : b = c := by
  have hx : (c ^^^ b).getLsbD 7 = false := by rw [BitVec.getLsbD_xor, hc, hb, Bool.xor_false]
  exact (BitVec.xor_eq_zero_iff.1 (eq_zero_of_crcBits_eq_zero hx h)).symm

/-- 0xB3 is in the kernel of CRC_BYTE too, so an exclusive or with it is not seen (R122). -/
theorem crcByte_xor_0xB3 (c b : Byte) : crcByte c (b ^^^ 0xB3#8) = crcByte c b := by
  have hkernel : crcByte 0#8 0xB3#8 = 0#8 := by decide
  have hx := crcByte_xor c 0#8 b 0xB3#8
  rwa [hkernel, BitVec.xor_zero, BitVec.xor_zero] at hx

theorem toNat_le_of_bit_seven {c : Byte} (h : c.getLsbD 7 = false) : c.toNat ≤ 0x7F :=
  Nat.le_of_lt_succ (BitVec.toNat_lt_of_msb_false ((BitVec.msb_eq_getLsbD_last c).trans h))

/-! The crc register over a sequence of bytes, and CHECKSUM. -/

theorem crcRun_append (c : Byte) (l m : List Byte) : crcRun c (l ++ m) = crcRun (crcRun c l) m :=
  List.foldl_append

theorem crcRun_zeros (k : Nat) : crcRun 0#8 (List.replicate k 0#8) = 0#8 := by
  induction k with
  | zero => rfl
  | succ k ih => exact (congrArg (crcRun · (List.replicate k 0#8)) (crcByte_self 0#8)).trans ih

theorem crcRun_xor {a b : List Byte} (h : a.length = b.length) (c d : Byte) :
    crcRun (c ^^^ d) (List.zipWith (fun x y => x ^^^ y) a b) = crcRun c a ^^^ crcRun d b := by
  induction a generalizing b c d with
  | nil =>
    obtain rfl := List.length_eq_zero_iff.1 h.symm
    rfl
  | cons x a ih =>
    cases b with
    | nil => cases h
    | cons y b =>
      have hrest := ih (Nat.succ.inj h) (crcByte c x) (crcByte d y)
      rwa [← crcByte_xor] at hrest

theorem crcRun_xor_0xB3 (c x : Byte) (after : List Byte) :
    crcRun c ((x ^^^ 0xB3#8) :: after) = crcRun c (x :: after) :=
  congrArg (crcRun · after) (crcByte_xor_0xB3 c x)

end Sys2Proof.Machine

namespace Sys2Proof.Safety

open Sys2Proof.Machine

/-! The table T as 95_test_vectors.md prints it (R122). -/

/-- Row by row the printed entries are eight CRC_BITs of 0x00 to 0xFF. -/
theorem crcTableRows_flatten :
    crcTableRows.flatten = (List.range 256).map fun n => crcBits 8 (BitVec.ofNat 8 n) := by
  decide +kernel

theorem crcTable_eq_crcBits (x : Byte) : crcTable x = crcBits 8 x := by
  rw [crcTable, crcTableRows_flatten, List.getD_eq_getElem _ _ (by simp [x.isLt]), List.getElem_map, List.getElem_range,
    BitVec.ofNat_toNat, BitVec.setWidth_eq]

theorem crcByte_eq_crcTable (c b : Byte) : crcByte c b = crcTable (c ^^^ b) :=
  (crcTable_eq_crcBits (c ^^^ b)).symm

theorem crcTable_eq_checksum (x : Byte) : crcTable x = checksum [x] := by
  rw [← BitVec.zero_xor (x := x), ← crcByte_eq_crcTable, BitVec.zero_xor]
  rfl

theorem crcTable_xor_0xB3 (x : Byte) : crcTable (x ^^^ 0xB3#8) = crcTable x := by
  rw [crcTable_eq_checksum, crcTable_eq_checksum]
  exact crcRun_xor_0xB3 crcInit x []

/-- The printed entries are the values up to 0x7F, each one twice, in another order. -/
theorem crcTableRows_perm :
    (crcTableRows.flatten.map BitVec.toNat).Perm (List.range 128 ++ List.range 128) := by
  decide +kernel

theorem crcTableRows_count (v : Byte) : crcTableRows.flatten.count v = if v.toNat ≤ 0x7F then 2 else 0 := by
  have hrange : (List.range 128).count v.toNat = if v.toNat < 128 then 1 else 0 := by
    simp [List.nodup_range.count]
  calc crcTableRows.flatten.count v
      = (crcTableRows.flatten.map BitVec.toNat).count v.toNat :=
        (List.count_map_of_injective _ _ (fun _ _ => BitVec.eq_of_toNat_eq) v).symm
    _ = (List.range 128).count v.toNat + (List.range 128).count v.toNat := by
        rw [crcTableRows_perm.count_eq, List.count_append]
    _ = if v.toNat ≤ 0x7F then 2 else 0 := by
        rw [hrange]
        split_ifs <;> omega

end Sys2Proof.Safety

namespace Sys2Proof.Proofs

open Sys2Proof.Machine Sys2Proof.Safety

/-- Settles O1: the shift distributes over the exclusive or, and takes the polynomial to 0x59. -/
theorem crcBitEqualsShiftForm : Obligations.CrcBitEqualsShiftForm := crcBit_eq_shift_xor

/-- Settles O2: the shift of each CRC_BIT clears bit 7, and the check byte of a frame is a CHECKSUM. -/
theorem checksumTopBitIsZero : Obligations.ChecksumTopBitIsZero := by
  refine ⟨crcBit_bit_seven, fun c b => toNat_le_of_bit_seven (crcByte_bit_seven c b),
    fun data => toNat_le_of_bit_seven (checksum_bit_seven data), fun cmd payload => ?_⟩
  rw [Nat.add_comm, byteAt_frame_fcs']
  exact checksum_bit_seven _

/-- Settles O3: CRC_INIT is 0, and zero bytes keep it. -/
theorem checksumIgnoresLeadingZeros : Obligations.ChecksumIgnoresLeadingZeros := by
  refine ⟨crcByte_self 0#8, crcRun_zeros, fun k data => ?_⟩
  exact (crcRun_append 0#8 _ data).trans (congrArg (crcRun · data) (crcRun_zeros k))

/-- Settles O4: the register holds the checksum when its own byte arrives; of the bytes without bit 7 only that one
clears it. -/
theorem checksumWithItsOwnByteIsZero : Obligations.ChecksumWithItsOwnByteIsZero := by
  refine ⟨fun data => ?_, fun data b h hb => ?_⟩
  · rw [checksum_append_singleton, crcByte_self]
  · rw [checksum_append_singleton] at h
    exact eq_of_crcByte_eq_zero (checksum_bit_seven data) hb h

/-- Settles O5: by linearity of CRC_BIT, bit by bit and then byte by byte. -/
theorem checksumIsLinear : Obligations.ChecksumIsLinear :=
  ⟨rfl, crcBit_xor, crcByte_xor, fun _ _ h => crcRun_xor h crcInit crcInit⟩

/-- Settles O6: the table is checked entry by entry; 0xB3 changes nothing by linearity of CRC_BYTE. -/
theorem crcByteFollowsTable : Obligations.CrcByteFollowsTable := by
  refine ⟨crcByte_eq_crcTable, crcTable_eq_checksum, fun x => (crcTable_xor_0xB3 x).symm,
    crcRun_xor_0xB3 crcInit 0#8 [], crcRun_xor_0xB3 crcInit 0x01#8 [], by decide, crcTableRows_count,
    fun before x after => ?_⟩
  rw [checksum, crcRun_append, crcRun_xor_0xB3, ← crcRun_append, checksum]

end Sys2Proof.Proofs
end

section
/-! BUILD_FRAME and FRAME_CHECK as inverse to each other (R131, R132, R140, R141): a sequence of the length its Length
field gives is made up of its fields, so one that passes the checks is the frame of its command and payload. -/

namespace Sys2Proof.Machine

/-! BUILD_FRAME by its one bound (R132). -/

theorem buildFrame_eq_some_iff {cmd : Byte} {payload f : List Byte} :
    buildFrame cmd payload = some f ↔ payload.length ≤ 65535 ∧ f = frameBytes cmd payload := by
  by_cases h : payload.length ≤ 65535 <;> simp [buildFrame, h, eq_comm]

theorem buildFrame_eq_none_iff {cmd : Byte} {payload : List Byte} :
    buildFrame cmd payload = none ↔ 65535 < payload.length := by
  simp [buildFrame]

theorem byteAt_frameBytes_end (cmd : Byte) (payload : List Byte) :
    byteAt (frameBytes cmd payload) (5 + payload.length) = Config.endMarker := by
  rw [byteAt, List.getD_eq_getElem?_getD, frameBytes_getElem?_end, Option.getD_some]

/-- The legal lengths lie within BUILD_FRAME's bound. -/
theorem LegalFrame.length_le {cmd : Byte} {payload : List Byte} (h : LegalFrame cmd payload) :
    payload.length ≤ 65535 := by
  obtain ⟨-, hn⟩ | ⟨-, -, hn⟩ := h
  · exact hn.le.trans (by decide)
  · exact hn.trans (by decide)

/-! A sequence of bytes made up of its fields (R81, R84). -/

/-- The other direction of `le16_join`: LE16 of two bytes joined gives the two bytes (R13, R84). -/
theorem le16_of_join (lo hi : Byte) :
    le16 (BitVec.setWidth 16 lo ||| (BitVec.setWidth 16 hi <<< 8)) = [lo, hi] := by
  have hlo : (BitVec.setWidth 16 lo ||| (BitVec.setWidth 16 hi <<< 8)).extractLsb' 0 8 = lo := by
    ext k hk
    simp [show k < 16 by omega, hk]
  have hhi : (BitVec.setWidth 16 lo ||| (BitVec.setWidth 16 hi <<< 8)).extractLsb' 8 8 = hi := by
    ext k hk
    simp [show 8 + k < 16 by omega, BitVec.getLsbD_eq_getElem hk]
  rw [le16, hlo, hhi]

section
variable {f : List Byte} {n : Nat}

variable (f) in
theorem le16_frameLen : le16 (BitVec.ofNat 16 (frameLen f)) = [byteAt f 2, byteAt f 3] := by
  rw [frameLen, BitVec.ofNat_toNat, BitVec.setWidth_eq, le16_of_join]

theorem drop_eq_byteAt_cons {k : Nat} (h : k < f.length) : f.drop k = byteAt f k :: f.drop (k + 1) := by
  rw [List.drop_eq_getElem_cons h, byteAt, List.getD_eq_getElem _ _ h]

/-- Behind the start marker stand command and Length field, then the payload and what follows it. -/
theorem drop_one_eq_fields (h : 4 ≤ f.length) :
    f.drop 1 = byteAt f 1 :: byteAt f 2 :: byteAt f 3 :: f.drop 4 := by
  rw [drop_eq_byteAt_cons (by omega), drop_eq_byteAt_cons (by omega), drop_eq_byteAt_cons (by omega)]

/-- The last two of `6 + n` bytes are the check byte and the end marker. -/
theorem drop_eq_check_and_end (h : f.length = 6 + n) :
    f.drop (4 + n) = [byteAt f (4 + n), byteAt f (5 + n)] := by
  rw [drop_eq_byteAt_cons (by omega), drop_eq_byteAt_cons (by omega), List.drop_of_length_le (by omega),
    show 4 + n + 1 = 5 + n by omega]

variable (hlen : f.length = 6 + frameLen f)
include hlen

theorem length_payload_field : ((f.drop 4).take (frameLen f)).length = frameLen f := by
  rw [List.length_take, List.length_drop]
  omega

/-- What the check sequence covers is the body of the frame with the sequence's own fields (R83). -/
theorem covered_eq_frameBody :
    (f.drop 1).take (3 + frameLen f) = frameBody (byteAt f 1) ((f.drop 4).take (frameLen f)) := by
  rw [frameBody, length_payload_field hlen, le16_frameLen, drop_one_eq_fields (by omega), Nat.add_comm]
  rfl

/-- With both markers and the right check byte it is the frame of its own command and payload (R131). -/
theorem eq_frameBytes_of_fields (hstart : byteAt f 0 = Config.startMarker)
    (hend : byteAt f (5 + frameLen f) = Config.endMarker)
    (hcheck : checksum ((f.drop 1).take (3 + frameLen f)) = byteAt f (4 + frameLen f)) :
    f = frameBytes (byteAt f 1) ((f.drop 4).take (frameLen f)) := by
  have htail : (f.drop 1).drop (3 + frameLen f) = [byteAt f (4 + frameLen f), byteAt f (5 + frameLen f)] := by
    rw [List.drop_drop, ← Nat.add_assoc, drop_eq_check_and_end hlen]
  calc f = byteAt f 0 :: f.drop 1 := drop_eq_byteAt_cons (k := 0) (by omega)
    _ = byteAt f 0 :: ((f.drop 1).take (3 + frameLen f) ++ (f.drop 1).drop (3 + frameLen f)) := by
        rw [List.take_append_drop]
    _ = frameBytes (byteAt f 1) ((f.drop 4).take (frameLen f)) := by
        rw [htail, hstart, hend, ← hcheck, covered_eq_frameBody hlen, frameBytes]

end

/-- Everything FRAME_CHECK has tested when it accepts (R140). -/
theorem frameCheck_ok {f payload : List Byte} {cmd : Byte} (h : frameCheck f = .ok (cmd, payload)) :
    f.length = 6 + frameLen f ∧ byteAt f 0 = Config.startMarker ∧ byteAt f (5 + frameLen f) = Config.endMarker ∧
    checksum ((f.drop 1).take (3 + frameLen f)) = byteAt f (4 + frameLen f) ∧
    cmd = byteAt f 1 ∧ payload = (f.drop 4).take (frameLen f) ∧ LegalFrame cmd payload := by
  simp only [frameCheck] at h
  split_ifs at h with hshort hstart hlen hend hcheck hcmd halloc hblock
  obtain ⟨rfl, rfl⟩ := Prod.mk.inj (Except.ok.inj h)
  replace hlen := not_not.1 hlen
  refine ⟨hlen, not_not.1 hstart, not_not.1 hend, not_not.1 hcheck, rfl, rfl, ?_⟩
  rw [LegalFrame, length_payload_field hlen]
  by_cases hc : byteAt f 1 = Config.cmdAllocateMemory
  · exact .inl ⟨hc, not_not.1 fun hn => halloc ⟨hc, hn⟩⟩
  · refine .inr ⟨?_, ?_⟩
    · tauto
    · have hn : ¬(frameLen f = 0 ∨ Config.blockSize < frameLen f) := fun hn => hblock ⟨hc, hn⟩
      omega

/-- FRAME_CHECK accepts exactly the frames that BUILD_FRAME makes of a legal command and length (R140, R141). -/
theorem frameCheck_eq_ok_iff {f payload : List Byte} {cmd : Byte} :
    frameCheck f = .ok (cmd, payload) ↔ LegalFrame cmd payload ∧ buildFrame cmd payload = some f := by
  refine ⟨fun h => ?_, fun ⟨hl, hb⟩ => ?_⟩
  · obtain ⟨hlen, hstart, hend, hcheck, rfl, rfl, hl⟩ := frameCheck_ok h
    exact ⟨hl, buildFrame_eq_some_iff.2 ⟨hl.length_le, eq_frameBytes_of_fields hlen hstart hend hcheck⟩⟩
  · obtain ⟨-, rfl⟩ := buildFrame_eq_some_iff.1 hb
    exact frameCheck_frameBytes hl

/-- The check byte that differs from the right one by 0xB3 clears the register as well (R120, R122). -/
theorem checksum_append_alias (data : List Byte) : checksum (data ++ [checksum data ^^^ 0xB3#8]) = 0#8 := by
  rw [checksum_append_singleton, crcByte_xor_0xB3, crcByte_self]

end Sys2Proof.Machine

namespace Sys2Proof.Proofs

open Sys2Proof.Machine Sys2Proof.Safety

/-- Settles O8: each field of `frameBytes` is read at its place. -/
theorem buildFrameLayout : Obligations.BuildFrameLayout := by
  intro cmd payload h
  have hcheck : byteAt (frameBytes cmd payload) (4 + payload.length) =
      checksum (((frameBytes cmd payload).drop 1).take (3 + payload.length)) := by
    rw [frameBytes_body, Nat.add_comm, byteAt_frame_fcs']
  refine ⟨frameBytes cmd payload, buildFrame_eq_some_iff.2 ⟨h, rfl⟩, ?_, ?_, frameLen_frameBytes cmd payload h, rfl,
    rfl, byteAt_frameBytes_end cmd payload, hcheck, frameBytes_payload cmd payload⟩
  · simp [frameBytes, frameBody]
  · rw [frameBytes_length, Nat.add_comm]

/-- Settles O9: the payloads are bounded by `payload_size_le` and, where a block begins below L, not empty. -/
theorem buildFrameRefusesOverlongPayload : Obligations.BuildFrameRefusesOverlongPayload := by
  refine ⟨fun _ _ => buildFrame_eq_none_iff, fun _ => rfl, fun s i hi => ?_,
    fun lv cmd p s => emitFrame_ne_refused lv cmd p s .payloadTooLong⟩
  have hr : (Payload.block i).readable s = true := decide_eq_true (block_begins hi)
  rw [payload_bytes_length]
  exact ⟨payload_size_pos hr, payload_size_le s _⟩

/-- Settles O10: what an operation appends is a legal frame, and FRAME_CHECK accepts those. -/
theorem frameCheckAcceptsBuiltFrames : Obligations.FrameCheckAcceptsBuiltFrames := by
  refine ⟨fun s t i hi h => ?_, fun cmd payload f hl hb => frameCheck_eq_ok_iff.2 ⟨hl, hb⟩⟩
  obtain ⟨-, -, -, -, htx | ⟨cmd, payload, htx, hl⟩⟩ := sendsAtMostOneFrame_exec hi h
  · exact .inl htx
  · exact .inr ⟨frameBytes cmd payload, (cmd, payload), htx, frameCheck_frameBytes hl⟩

/-- Settles O11: the checks leave no byte of the sequence open. -/
theorem frameCheckAcceptsOnlyBuiltFrames : Obligations.FrameCheckAcceptsOnlyBuiltFrames := by
  intro f cmd payload h
  obtain ⟨hl, hb⟩ := frameCheck_eq_ok_iff.1 h
  exact ⟨hb, hl⟩

/-- Refutes O12: in the frame 03 of one byte 00 the check byte 0x6B is replaced by 0x6B ^^^ 0xB3 = 0xD8, which
FRAME_CHECK tells from the right one and the zero test does not. -/
theorem not_frameCheckTestIsZeroTest : ¬ Obligations.FrameCheckTestIsZeroTest := by
  intro h
  have hiff := h [0xAA#8, 0x03#8, 0x01#8, 0x00#8, 0x00#8, 0xD8#8, 0x55#8] rfl
  have hfcs : checksum [0x03#8, 0x01#8, 0x00#8, 0x00#8] = 0x6B#8 := by decide +kernel
  have hzero := checksum_append_alias [0x03#8, 0x01#8, 0x00#8, 0x00#8]
  rw [hfcs] at hzero
  have hbad : checksum [0x03#8, 0x01#8, 0x00#8, 0x00#8] ≠ 0xD8#8 := by
    rw [hfcs]
    decide
  exact hiff.1 hbad hzero

/-- Settles O13: PARSE_ACK reads the first byte only. -/
theorem parseAckReadsFirstByte : Obligations.ParseAckReadsFirstByte := ⟨rfl, fun _ _ => rfl⟩

end Sys2Proof.Proofs
end

section
/-! The frame operations at their control points (R133 to R135, R164; log 7). -/

namespace Sys2Proof.Machine

theorem exec_frameAllocateMemory_due {s : State} (h : s.allocationDue = true) :
    exec .frameAllocateMemory s = emitAllocate .transaction s := by
  simp [exec, execFrameAllocateMemory, h]

theorem exec_frameBinaryBlock_due {s : State} (h : s.blockDue = true) :
    exec .frameBinaryBlock s = emitBlock .transaction s.blockIndex.toNat s := by
  simp [exec, execFrameBinaryBlock, h]

theorem exec_frameBinaryBlockLast_due {s : State} {len : BitVec 16} (h : s.lastBlockDue = true)
    (hlen : len.toNat = blockLen s.imageLen.toNat s.blockIndex.toNat) :
    exec (.frameBinaryBlockLast len) s = emitBlock .transaction s.blockIndex.toNat s := by
  simp [exec, execFrameBinaryBlockLast, h, hlen]

@[simp] theorem blockSlice_length (s : State) (i : Nat) :
    (blockSlice s i).length = blockLen s.imageLen.toNat i :=
  payload_bytes_length s (.block i)

/-- Every block but the last is whole (R166). -/
theorem blockLen_of_not_last {len i : Nat} (h : i + 1 < blockCountOf len) : blockLen len i = 512 := by
  have hbegin := block_begins h
  simp only [blockLen, Config.blockSize]
  omega

/-- The last block is the rest of the image (R166). -/
theorem blockLen_of_last {len i : Nat} (h : i + 1 = blockCountOf len) : blockLen len i = len - 512 * i := by
  simp only [blockCountOf] at h
  simp only [blockLen, Config.blockSize]
  omega

end Sys2Proof.Machine

namespace Sys2Proof.Proofs

open Sys2Proof.Machine Sys2Proof.Safety

/-- Settles O32: the premises are the control point, and the emission is `emitAllocate_eq`. -/
theorem allocationFrameOperationEmits : Obligations.AllocationFrameOperationEmits := by
  intro s hs hack hp
  exact ⟨(exec_frameAllocateMemory_due (allocationDue_iff.2 ⟨hs, hack, hp⟩)).trans (emitAllocate_eq hp),
    frameBytes_length _ _⟩

/-- Settles O33: BLOCK_INDEX against BLOCK_COUNT gives the control point, the command and the length of the slice; the
emission is `emitBlock_eq`. -/
theorem blockFrameOperationsEmit : Obligations.BlockFrameOperationsEmit := by
  intro s hs hack hp hl
  obtain ⟨-, hcount, -⟩ := hl
  have hin : s.state.inSession = true := inSession_iff.2 hs
  refine ⟨fun hi => ?_, fun len hi hlen => ?_⟩
  · have hcmd : blockCmd s.blockCount.toNat s.blockIndex.toNat = Config.cmdBinaryBlock := if_neg (by omega)
    have hemit := emitBlock_eq (i := s.blockIndex.toNat) hp (block_begins (by omega))
    rw [hcmd] at hemit
    rw [frameBytes_length, blockSlice_length, blockLen_of_not_last (hcount ▸ hi)]
    exact ⟨(exec_frameBinaryBlock_due (blockDue_iff.2 ⟨hin, hi, hack, hp⟩)).trans hemit, rfl⟩
  · have hcmd : blockCmd s.blockCount.toNat s.blockIndex.toNat = Config.cmdBinaryBlockLast := if_pos hi
    have hemit := emitBlock_eq (i := s.blockIndex.toNat) hp (block_begins (by omega))
    rw [hcmd] at hemit
    have hlast : len.toNat = blockLen s.imageLen.toNat s.blockIndex.toNat :=
      hlen.trans (blockLen_of_last (hi.trans hcount)).symm
    rw [frameBytes_length, blockSlice_length, ← hlast, Nat.add_comm]
    exact ⟨(exec_frameBinaryBlockLast_due (lastBlockDue_iff.2 ⟨hin, hi, hack, hp⟩) hlast).trans hemit, rfl⟩

end Sys2Proof.Proofs
end

section
/-! Segmentation (R160 to R168): the sizes START latches, and the lengths of the blocks. -/

namespace Sys2Proof.Machine

theorem allocSizeOf_multiple (len : Nat) : allocSizeOf len % 512 = 0 := Nat.mul_mod_left _ _

/-- ALLOC_SIZE_OF rounds up to a whole block (R162). -/
theorem allocSizeOf_bounds (len : Nat) : len ≤ allocSizeOf len ∧ allocSizeOf len < len + 512 := by
  rw [allocSizeOf, blockCountOf]
  omega

theorem allocSizeOf_eq_self_iff (len : Nat) : allocSizeOf len = len ↔ len % 512 = 0 := by
  have hmul := allocSizeOf_multiple len
  have hbounds := allocSizeOf_bounds len
  omega

/-- Up to MAX_IMAGE_LEN both values fit their registers (R163). -/
theorem segmentation_fits {len : Nat} (h : len ≤ 0xFFFFFE00) :
    blockCountOf len ≤ 0x7FFFFF ∧ allocSizeOf len ≤ 0xFFFFFE00 := by
  rw [allocSizeOf, blockCountOf]
  omega

/-- Above MAX_IMAGE_LEN the next multiple of 512 is no 32-bit value (R163). -/
theorem allocSizeOf_overflow {len : Nat} (h : 0xFFFFFE00 < len) :
    2 ^ 32 ≤ allocSizeOf len ∧ (len < 2 ^ 32 → allocSizeOf len = 2 ^ 32) := by
  rw [allocSizeOf, blockCountOf]
  omega

theorem blockCountOf_eq_zero_iff (len : Nat) : blockCountOf len = 0 ↔ len = 0 := by
  rw [blockCountOf]
  omega

/-- A block lies within the image, and is neither empty nor longer than BLOCK_SIZE (R166). -/
theorem blockLen_bounds {len i : Nat} (h : i < blockCountOf len) :
    1 ≤ blockLen len i ∧ blockLen len i ≤ 512 ∧ i * 512 + blockLen len i ≤ len := by
  have hbegin := block_begins h
  simp only [blockLen, Config.blockSize]
  omega

/-- The blocks reach the end of the image. -/
theorem min_blockCountOf_mul (len : Nat) : min (blockCountOf len * 512) len = len :=
  Nat.min_eq_right (allocSizeOf_bounds len).1

end Sys2Proof.Machine

namespace Sys2Proof.Safety

open Sys2Proof.Machine

/-- The blocks tile the image byte for byte (R167). -/
theorem flatten_all_blocks (m : Memory) (len : Nat) :
    ((List.range (blockCountOf len)).map fun i => imageBytes m (i * 512) (blockLen len i)).flatten =
      imageBytes m 0 len := by
  rw [flatten_blocks, min_blockCountOf_mul]

/-- The lengths of the blocks sum to L: they are the lengths of slices that tile the image (R167). -/
theorem sum_blockLen (len : Nat) : ((List.range (blockCountOf len)).map (blockLen len)).sum = len := by
  have hlen := congrArg List.length (flatten_all_blocks [] len)
  simpa [List.length_flatten, Function.comp_def] using hlen

end Sys2Proof.Safety

namespace Sys2Proof.Proofs

open Sys2Proof.Machine Sys2Proof.Safety

/-- Settles O14: ALLOC_SIZE_OF is the least multiple of 512 that is not below L, and each bound follows from that. -/
theorem segmentationArithmetic : Obligations.SegmentationArithmetic :=
  ⟨fun len => ⟨allocSizeOf_multiple len, allocSizeOf_bounds len⟩, allocSizeOf_eq_self_iff,
    fun _ h => segmentation_fits h, fun _ h => allocSizeOf_overflow h, blockCountOf_eq_zero_iff⟩

/-- Settles O15: the slices tile the image by `flatten_blocks`, and so their lengths sum to L. -/
theorem blocksTileTheImage : Obligations.BlocksTileTheImage := by
  refine fun m len => ⟨fun _ h => blockLen_of_not_last h, fun i h => ?_, fun i h => ?_, sum_blockLen len,
    flatten_all_blocks m len⟩
  · obtain ⟨hpos, hle, -⟩ := blockLen_bounds (len := len) (i := i) (by omega)
    exact ⟨blockLen_of_last h, hpos, hle⟩
  · obtain ⟨-, -, hend⟩ := blockLen_bounds h
    exact hend

end Sys2Proof.Proofs
end

section
/-! The host's operations as equations, case by case (R170 to R173, R185, R186). -/

namespace Sys2Proof.Machine

theorem exec_hostRead_aligned {off : BitVec 6} (h : off.toNat % 4 = 0) (s : State) :
    exec (.hostRead off) s = .next { s with regRdata := some (s.readReg off) } := by
  simp [exec, execHostRead, offsetAligned_eq_decide, h]

theorem exec_hostWriteImageLen_idle {s : State} (len : Word) (h : s.state = .idle) :
    exec (.hostWriteImageLen len) s = .next { s with imageLen := len } := by
  simp [exec, execHostWriteImageLen, h]

theorem exec_hostWriteImageLen_of_ne_idle {s : State} (len : Word) (h : s.state ≠ .idle) :
    exec (.hostWriteImageLen len) s = .next s := by
  cases hs : s.state with
  | idle => exact absurd hs h
  | _ => simp only [exec, execHostWriteImageLen, hs]

theorem startSession_too_long {lv : Level} {s : State} (hs : s.state = .idle)
    (hl : Config.maxImageLen < s.imageLen.toNat) : startSession lv s = .refused .imageTooLong := by
  simp [startSession, hs, hl]

theorem startSession_no_link {lv : Level} {s : State} (hs : s.state = .idle)
    (hl : s.imageLen.toNat ≤ Config.maxImageLen) (hr : s.linkReady = false) :
    startSession lv s = .next (raise .transportOpen s) := by
  simp [startSession, hs, Nat.not_lt.2 hl, hr]

theorem startSession_of_ne_idle {lv : Level} {s : State} (h : s.state ≠ .idle) : startSession lv s = .next s := by
  cases hs : s.state with
  | idle => exact absurd hs h
  | _ => simp only [startSession, hs]

end Sys2Proof.Machine

namespace Sys2Proof.Proofs

open Sys2Proof.Machine

/-- Settles O19: an aligned read is answered at the read port, and the reserved offsets read 0. -/
theorem hostReadReturnsRegister : Obligations.HostReadReturnsRegister :=
  fun s _ h => ⟨exec_hostRead_aligned h s, readReg_reserved s⟩

/-- Settles O20, by the two cases of STATE. -/
theorem imageLenWrittenInIdleOnly : Obligations.ImageLenWrittenInIdleOnly :=
  fun _ len => ⟨exec_hostWriteImageLen_idle len, exec_hostWriteImageLen_of_ne_idle len⟩

/-- Settles O22: `exec_hostStart_ready`, with the latched values written out. -/
theorem startSendsAllocationFrame : Obligations.StartSendsAllocationFrame :=
  fun _ ignored hs hp hr hl => exec_hostStart_ready ignored hs hp hr hl

/-- Settles O23: START makes its checks in the order of R187, and the error entry records Idle. -/
theorem startRefusedFailedOrIgnored : Obligations.StartRefusedFailedOrIgnored := by
  refine fun s ignored => ⟨startSession_too_long, fun hs hl hr => ?_, startSession_of_ne_idle⟩
  rw [← hs]
  exact startSession_no_link hs hl hr

end Sys2Proof.Proofs
end

section
/-! The link events as equations: discarded without an open window, else answered by their transition (R174 to
R184). -/

namespace Sys2Proof.Machine

/-- With a frame in emission or no session under way no window is open (R184, R218). -/
theorem windowOpen_eq_false {s : State} (h : s.state.inSession = false ∨ s.serPhase ≠ .idle) :
    s.windowOpen = false := by
  obtain h | h := h <;> simp [State.windowOpen, h]

theorem linkEvent_of_windowClosed {s : State} (r : AckResponse) (h : s.windowOpen = false) :
    linkEvent r s = .next s := by
  simp [linkEvent, h]

theorem linkEvent_of_windowOpen {s : State} (r : AckResponse) (h : s.windowOpen = true) :
    linkEvent r s = takeEvent .transaction r s := by
  simp [linkEvent, h]

theorem onTimeout_allocateSent {s : State} (h : s.state = .allocateSent) :
    onTimeout s = .next (raise (.ackTimeout 0#24) s) := by
  simp only [onTimeout, h]

theorem onTimeout_uploading {s : State} (h : s.state = .uploading) :
    onTimeout s = .next (raise (.ackTimeout s.blockIndex) s) := by
  simp only [onTimeout, h]

theorem onErrorCode_allocateSent {s : State} (h : s.state = .allocateSent) (code : Byte) :
    onErrorCode code s = .next (raise (.allocation code) s) := by
  simp only [onErrorCode, h]

theorem onErrorCode_uploading {s : State} (h : s.state = .uploading) (code : Byte) :
    onErrorCode code s = .next (raise (.transfer s.blockIndex code) s) := by
  simp only [onErrorCode, h]

/-- ACK_TIMEOUT answers an open window (R180). -/
theorem exec_ackTimeout_of_windowOpen {s : State} (h : s.windowOpen = true) :
    exec .ackTimeout s = onTimeout (closeWindow s) :=
  linkEvent_of_windowOpen .timeoutError h

/-- ACK_ERROR answers an open window (R139, R181). -/
theorem exec_ackError_of_windowOpen {s : State} {code : Byte} (hc : code ≠ 0x00#8) (h : s.windowOpen = true) :
    exec (.ackError code) s = onErrorCode code (closeWindow s) :=
  (linkEvent_of_windowOpen (.status code) h).trans (if_neg hc)

end Sys2Proof.Machine

namespace Sys2Proof.Proofs

open Sys2Proof.Machine Sys2Proof.Safety

/-- Settles O24: the success of `onSuccess_block` for block 0. -/
theorem allocationAckSendsBlockZero : Obligations.AllocationAckSendsBlockZero := by
  intro s hs hp hl hb
  obtain ⟨-, hcount, -⟩ := hl
  have hw : s.windowOpen = true := windowOpen_iff.2 ⟨inSession_iff.2 (.inl hs), hp⟩
  have hpos : (0#24).toNat < s.blockCount.toNat := by bv_omega
  have hbegin : (0#24).toNat * 512 < s.imageLen.toNat := block_begins (hcount ▸ hpos)
  have hcmd : blockCmd s.blockCount.toNat 0 = if s.blockCount.toNat = 1 then 0x03#8 else 0x02#8 :=
    if_congr eq_comm rfl rfl
  rw [← hcmd, exec_ackSuccess_of_windowOpen hw]
  exact onSuccess_block (s := closeWindow s) hp hpos hbegin (.inl ⟨hs, rfl⟩)

/-- Settles O25: the success of `onSuccess_block` for the block after BLOCK_INDEX. -/
theorem blockAckSendsNextBlock : Obligations.BlockAckSendsNextBlock := by
  intro s hs hp hl hb
  obtain ⟨-, hcount, -⟩ := hl
  have hw : s.windowOpen = true := windowOpen_iff.2 ⟨inSession_iff.2 (.inr hs), hp⟩
  have hnext : (s.blockIndex + 1#24).toNat = s.blockIndex.toNat + 1 := by bv_omega
  have hbegin : (s.blockIndex.toNat + 1) * 512 < s.imageLen.toNat := block_begins (hcount ▸ hb)
  have hsend := onSuccess_block (s := closeWindow s) (i := s.blockIndex + 1#24) hp (hnext ▸ hb) (hnext ▸ hbegin)
    (.inr ⟨hs, hnext⟩)
  rw [hnext] at hsend
  rw [exec_ackSuccess_of_windowOpen hw, hsend, moveTo_eq_self (by exact hs)]
  rfl

/-- Settles O26: `onSuccess_last` in the window that the event closes. -/
theorem lastAckCompletesSession : Obligations.LastAckCompletesSession := by
  intro s hp hall
  have hw : s.windowOpen = true := windowOpen_iff.2 ⟨inSession_iff.2 (hall.imp And.left And.left), hp⟩
  exact (exec_ackSuccess_of_windowOpen hw).trans (onSuccess_last (s := closeWindow s) hall)

/-- Settles O27: in each of the two states the timeout rule raises AckTimeoutError with that state's block. -/
theorem timeoutFailsSession : Obligations.TimeoutFailsSession := by
  intro s hp hs
  rw [exec_ackTimeout_of_windowOpen (windowOpen_iff.2 ⟨inSession_iff.2 hs, hp⟩)]
  obtain hs | hs := hs
  · rw [if_neg (by simp [hs])]
    exact onTimeout_allocateSent (s := closeWindow s) hs
  · rw [if_pos hs]
    exact onTimeout_uploading (s := closeWindow s) hs

/-- Settles O28: the error of AllocateSent and that of Uploading, each with the code as it came. -/
theorem errorAckFailsSession : Obligations.ErrorAckFailsSession := by
  refine fun s code hp hc => ⟨fun hs => ?_, fun hs => ?_⟩
  · rw [exec_ackError_of_windowOpen hc (windowOpen_iff.2 ⟨inSession_iff.2 (.inl hs), hp⟩), ← hs]
    exact onErrorCode_allocateSent (s := closeWindow s) hs code
  · rw [exec_ackError_of_windowOpen hc (windowOpen_iff.2 ⟨inSession_iff.2 (.inr hs), hp⟩), ← hs]
    exact onErrorCode_uploading (s := closeWindow s) hs code

/-- Settles O29: each of the four premises keeps the window closed. -/
theorem eventsWithoutWindowDiscarded : Obligations.EventsWithoutWindowDiscarded := by
  intro s h
  have hw : s.windowOpen = false := by
    obtain h | h | h | h := h
    · exact windowOpen_eq_false (.inl (by rw [h]; rfl))
    · exact windowOpen_eq_false (.inl (by rw [h]; rfl))
    · exact windowOpen_eq_false (.inl (by rw [h]; rfl))
    · exact windowOpen_eq_false (.inr h)
  exact ⟨linkEvent_of_windowClosed _ hw, fun _ => linkEvent_of_windowClosed _ hw, linkEvent_of_windowClosed _ hw⟩

end Sys2Proof.Proofs
end

section
/-! The parts of a clock cycle as equations: what the register port runs, and when the link sampling and the
serializer have nothing to do (R96, R202, R216). -/

namespace Sys2Proof

/-- A write access at an aligned offset is an operation, and none that reads (R96). -/
theorem decode_write {off : BitVec 6} (data : Word) (h : off.toNat % 4 = 0) :
    ∃ i, decode (.hostop (hostopWord 1#1 off data)) = .ok i ∧ ∀ o, i ≠ .hostRead o := by
  have ha : offsetAligned off = true := by simpa [offsetAligned_eq_decide] using h
  by_cases hctrl : off = 0x00#6
  · subst hctrl
    obtain hb | hb := BitVec.eq_zero_or_eq_one (data.extractLsb' 0 1)
    · rw [← ctrlData_fields data, hb]
      exact ⟨_, decode_ctrlNop _, nofun⟩
    · rw [← ctrlData_fields data, hb]
      exact ⟨_, decode_ctrlStart _, nofun⟩
  · by_cases hlen : off = 0x08#6
    · subst hlen
      exact ⟨_, decode_writeImageLen data, nofun⟩
    · exact ⟨_, decode_writeIgnored data (offsetWriteIgnored_iff.2 ⟨ha, hctrl, hlen⟩), nofun⟩

/-- A CTRL write with bit 0 set is START, whatever its other bits are (R23, R97). -/
theorem decode_write_start {data : Word} (h : data.getLsbD 0 = true) :
    decode (.hostop (hostopWord 1#1 0x00#6 data)) = .ok (.hostStart (data.extractLsb' 1 31)) := by
  have hbit : data.extractLsb' 0 1 = 1#1 := by
    refine BitVec.eq_of_getLsbD_eq fun k hk => ?_
    obtain rfl : k = 0 := by omega
    simpa using h
  conv_lhs => rw [← ctrlData_fields data, hbit]
  exact decode_ctrlStart _

end Sys2Proof

namespace Sys2Proof.Machine

theorem hostCycle_of_decode_ok {p : PortsIn} {i : Instr} (hq : p.regReq = true)
    (hd : decode (.hostop (hostopOfAccess p.regWe p.regOff p.regWdata)) = .ok i) (s : State) :
    hostCycle p s = hostOpCycle i s := by
  simp [hostCycle, hq, hd]

theorem hostCycle_misaligned {p : PortsIn} (hq : p.regReq = true) (ho : p.regOff.toNat % 4 ≠ 0) (s : State) :
    hostCycle p s = .refused .badRegisterAccess := by
  have hd : decode (.hostop (hostopOfAccess p.regWe p.regOff p.regWdata)) = .error .misalignedOffset := by
    cases hw : p.regWe <;> exact decode_misaligned _ _ ho
  simp [hostCycle, hq, hd]

theorem hostCycle_start {p : PortsIn} (hq : p.regReq = true) (hw : p.regWe = true) (ho : p.regOff = 0x00#6)
    (hb : p.regWdata.getLsbD 0 = true) (s : State) : hostCycle p s = startSession .cycle s := by
  refine hostCycle_of_decode_ok hq (i := .hostStart (p.regWdata.extractLsb' 1 31)) ?_ s
  rw [hw, ho]
  exact decode_write_start hb

/-- With `ack_wait` 0 the link sampling discards what the link delivers (R217). -/
theorem linkCycle_of_not_ackWait (p : PortsIn) {s : State} (h : s.ackWait = false) : linkCycle p s = .next s := by
  cases hp : p.linkEvent? <;> simp [linkCycle, hp, h]

/-- A cycle without `rst` in which the link sampling has no window: the register access, then the serializer unless the
access loaded it (R210, R249). -/
theorem cycle_of_hostCycle {p : PortsIn} {s u : State} (hr : p.rst = false)
    (hu : hostCycle p { s with linkReady := p.linkReady } = .next u) (ha : u.ackWait = false) :
    cycle p s = if s.serPhase == .idle && u.serPhase != .idle then .next u else serCycle p.txReady p.imgAck u := by
  simp [cycle, hr, hu, linkCycle_of_not_ackWait p ha]

/-- START in a cycle loads the serializer with the allocation frame (R210, R218). -/
theorem startSession_cycle_ready {s : State} (hs : s.state = .idle) (hp : s.serPhase = .idle)
    (hr : s.linkReady = true) (hl : s.imageLen.toNat ≤ Config.maxImageLen) :
    startSession .cycle s =
      .next (moveTo .allocateSent (serLoaded Config.cmdAllocateMemory .alloc (latch s))) := by
  have he : emitAllocate .cycle (latch s) = _ := emitFrame_cycle_next.2 ⟨hp, rfl, rfl⟩
  simp [startSession, hs, hr, Nat.not_lt.2 hl, he]

end Sys2Proof.Machine

namespace Sys2Proof.Proofs

open Sys2Proof.Machine

/-- Settles O56: the register port runs START, which leaves `ack_wait` 0 and the serializer loaded, so neither the link
nor the serializer has a part in the cycle. -/
theorem cycleStartLoadsSerializer : Obligations.CycleStartLoadsSerializer := by
  intro p s hrst hq hw ho hb hr hs hp ha hl
  have hstart := startSession_cycle_ready (s := { s with linkReady := p.linkReady }) hs hp hr hl
  rw [← hostCycle_start hq hw ho hb] at hstart
  rw [cycle_of_hostCycle hrst hstart (by exact ha), hp, hr]
  rfl

end Sys2Proof.Proofs
end

section
/-! The terminal states (R182, R183, R188): how a session enters one, what holds in it, and that only reset leaves
it. -/

namespace Sys2Proof.Machine

theorem terminal_iff {u : UploadState} : u.terminal = true ↔ u = .complete ∨ u = .failed := by
  cases u <;> simp [UploadState.terminal]

section
variable {s : State} (ht : s.state.terminal = true)
include ht

theorem ne_idle_of_terminal : s.state ≠ .idle := by
  intro hs
  simp [hs, UploadState.terminal] at ht

/-- A link event finds no window (R184), START no Idle (R173), and IMAGE_LEN is not written (R185). -/
theorem exec_of_terminal {i : Instr} (hi : Safety.isAccessOrEvent i = true) (hn : ∀ off, i ≠ .hostRead off) :
    exec i s = .next s := by
  have hidle := ne_idle_of_terminal ht
  have hw := windowOpen_eq_false (.inl (not_inSession_of_terminal ht))
  cases i with
  | frameAllocateMemory => cases hi
  | frameBinaryBlock => cases hi
  | frameBinaryBlockLast len => cases hi
  | ackSuccess => exact linkEvent_of_windowClosed _ hw
  | ackError code => exact linkEvent_of_windowClosed _ hw
  | ackTimeout => exact linkEvent_of_windowClosed _ hw
  | hostStart ignored => exact startSession_of_ne_idle hidle
  | hostCtrlNop ignored => rfl
  | hostWriteImageLen len => exact exec_hostWriteImageLen_of_ne_idle len hidle
  | hostWriteIgnored off data => rfl
  | hostRead off => exact absurd rfl (hn off)
  | reset => cases hi

theorem hostOpCycle_of_terminal {i : Instr} (hn : ∀ off, i ≠ .hostRead off) : hostOpCycle i s = .next s := by
  cases i with
  | hostStart ignored => exact startSession_of_ne_idle (ne_idle_of_terminal ht)
  | hostWriteImageLen len => exact exec_hostWriteImageLen_of_ne_idle len (ne_idle_of_terminal ht)
  | hostRead off => exact absurd rfl (hn off)
  | _ => rfl

/-- Of the accesses of the register port only a read has an effect, and that on the read port (R183). -/
theorem hostCycle_of_terminal {p : PortsIn} (ho : p.regReq = true → p.regOff.toNat % 4 = 0) :
    ∃ r, hostCycle p s = .next { s with regRdata := r } ∧ (p.regReq = false ∨ p.regWe = true → r = s.regRdata) := by
  cases hq : p.regReq with
  | false => exact ⟨s.regRdata, by simp [hostCycle, hq], fun _ => rfl⟩
  | true =>
    cases hw : p.regWe with
    | true =>
      obtain ⟨i, hd, hn⟩ := decode_write p.regWdata (ho hq)
      exact ⟨s.regRdata, (hostCycle_of_decode_ok hq (hw ▸ hd) s).trans (hostOpCycle_of_terminal ht hn), fun _ => rfl⟩
    | false =>
      have hd : decode (.hostop (hostopOfAccess p.regWe p.regOff p.regWdata)) = .ok (.hostRead p.regOff) := by
        rw [hw]
        exact decode_read (ho hq)
      exact ⟨_, (hostCycle_of_decode_ok hq hd s).trans (exec_hostRead_aligned (ho hq) s), by simp⟩

end

theorem cycle_misaligned {p : PortsIn} (hr : p.rst = false) (hq : p.regReq = true) (ho : p.regOff.toNat % 4 ≠ 0)
    (s : State) : cycle p s = .refused .badRegisterAccess := by
  simp [cycle, hr, hostCycle_misaligned hq ho]

end Sys2Proof.Machine

namespace Sys2Proof.Safety

open Sys2Proof.Machine

/-- A clock cycle in a terminal state is its register access: no window is open and the serializer is at rest (R183,
R217). -/
theorem cycle_of_terminal {p : PortsIn} {s : State} (hi : Inv s) (ht : s.state.terminal = true) (hr : p.rst = false)
    (ho : p.regReq = true → p.regOff.toNat % 4 = 0) :
    ∃ r, cycle p s = .next { s with linkReady := p.linkReady, regRdata := r } ∧
      (p.regReq = false ∨ p.regWe = true → r = s.regRdata) := by
  have hin := not_inSession_of_terminal ht
  have hp := hi.serPhase_eq_idle hin
  obtain ⟨r, hu, hport⟩ := hostCycle_of_terminal (s := { s with linkReady := p.linkReady }) ht ho
  refine ⟨r, ?_, hport⟩
  rw [cycle_of_hostCycle hr hu (hi.ackWait_eq_false hin), if_neg (by simp [hp])]
  exact serCycle_idle _ _ hp (hi.emission.rest (.inl hp))

theorem SessionMove.state_eq_of_terminal {s t : State} (h : SessionMove s t) (ht : s.state.terminal = true) :
    t.state = s.state := by
  obtain hk | ⟨⟨hs, -⟩ | ⟨hs, -⟩, -, -⟩ | ⟨hs, -, -, -⟩ | ⟨hs, -, -, -⟩ := h
  · exact hk.state
  · cases hs ▸ ht
  · cases hs ▸ ht
  · cases (not_inSession_of_terminal ht).symm.trans hs
  · cases ht.symm.trans hs

/-- RELEASED is written by the two moves that enter a terminal state, which start in none (R182). -/
theorem SessionMove.released_eq {s t : State} (h : SessionMove s t) :
    t.released = (s.released || (!s.state.terminal && t.state.terminal)) := by
  obtain hk | ⟨⟨hs, ht⟩ | ⟨hs, ht⟩, -, hr⟩ | ⟨hs, ht, -, hr⟩ | ⟨hs, ht, -, hr⟩ := h
  · simp [hk.released, hk.state]
  · simp [hr, ht, UploadState.terminal]
  · simp [hr, ht, UploadState.terminal]
  · obtain hs | hs := inSession_iff.1 hs <;> simp [hr, hs, ht, UploadState.terminal]
  · rw [hr, hs, ht]
    exact (Bool.or_true _).symm

/-- With no session under way FRAMES_SENT counts the frames of the point the session has reached (R36, R188). -/
theorem Inv.toNat_framesSent {s : State} (hi : Inv s) (h : s.state.inSession = false) :
    s.framesSent.toNat = framesBegun s := by
  have hf := hi.frames
  rwa [FramesCounted, if_pos (hi.serPhase_eq_idle h), Nat.add_zero] at hf

theorem framesBegun_of_complete {s : State} (h : s.state = .complete) : framesBegun s = s.blockCount.toNat + 1 := by
  simp [framesBegun, point, h]

/-- A failed session is counted at the state it failed in. -/
theorem framesBegun_of_failed {s : State} (h : s.state = .failed) :
    (s.failState = .idle → framesBegun s = 0) ∧ (s.failState = .allocateSent → framesBegun s = 1) ∧
    (s.failState = .uploading → framesBegun s = s.blockIndex.toNat + 2) := by
  refine ⟨fun hf => ?_, fun hf => ?_, fun hf => ?_⟩ <;> simp [framesBegun, point, h, hf]

/-- The invariant leaves a terminal state only the outcomes of R188: the error fields say where the session failed,
and that point how many frames it has sent. -/
theorem sessionOutcome_of_terminal {s : State} (hi : Inv s) (ht : s.state = .complete ∨ s.state = .failed) :
    SessionOutcome s := by
  have hsent := hi.toNat_framesSent (not_inSession_of_terminal (terminal_iff.2 ht))
  obtain ⟨hnone, -, htransport, htimeout, halloc, htransfer, -⟩ := hi.errors
  obtain hs | hs := ht
  · exact .inl ⟨hs, hnone.2 (by simp [hs]), hsent.trans (framesBegun_of_complete hs)⟩
  · obtain ⟨hidle, hallocate, hupload⟩ := framesBegun_of_failed hs
    cases hk : s.errKind with
    | none => exact absurd hs (hnone.1 hk)
    | transportOpen =>
      obtain ⟨hf, -, -⟩ := htransport hk
      exact .inr (.inl ⟨hs, hk, hsent.trans (hidle hf)⟩)
    | ackTimeout =>
      obtain ⟨-, ⟨hf, -⟩ | ⟨hf, hb⟩⟩ := htimeout hk
      · exact .inr (.inr (.inl ⟨hs, .inr hk, hf, hsent.trans (hallocate hf)⟩))
      · exact .inr (.inr (.inr ⟨hs, .inr hk, hf, hb ▸ hsent.trans (hupload hf)⟩))
    | allocation =>
      obtain ⟨hf, -, -⟩ := halloc hk
      exact .inr (.inr (.inl ⟨hs, .inl hk, hf, hsent.trans (hallocate hf)⟩))
    | transfer =>
      obtain ⟨hf, -, hb⟩ := htransfer hk
      exact .inr (.inr (.inr ⟨hs, .inl hk, hf, hb ▸ hsent.trans (hupload hf)⟩))

/-- A step from the invariant is a reset, which enters Idle, or a move of the session. -/
theorem step_reset_or_sessionMove {s t : State} (hi : Inv s) (h : step s = .next t) :
    t.state = .idle ∨ SessionMove s t := by
  obtain ⟨-, rfl⟩ | ⟨i, rest, hs, -⟩ := step_next h
  · exact .inr (.stays (.refl t))
  · cases hr : isReset i with
    | false => exact .inr (sessionMove_step hi hs hr h)
    | true =>
      refine .inl ?_
      rw [step_of_inputs_cons hs] at h
      cases i with
      | op w =>
        obtain rfl : w = .pin 1#1 := by simpa [isReset] using hr
        cases h
        rfl
      | clock p =>
        obtain ⟨-, rfl⟩ | ⟨hn, -⟩ := cycle_next h
        · rfl
        · cases hn.symm.trans hr
      | rx raw => cases hr
      | access write width offset data => cases hr
      | linkReady level => cases hr
      | loadImage addr bytes => cases hr

end Sys2Proof.Safety

namespace Sys2Proof.Proofs

open Sys2Proof.Machine Sys2Proof.Safety

/-- Settles O30: `exec_of_terminal` for the operations, `cycle_of_terminal` for the clock cycle. -/
theorem terminalStatesChangeNothing : Obligations.TerminalStatesChangeNothing := by
  refine ⟨fun s i hs hi hwf => ?_, fun p s hi hs hr => ⟨fun hq ho => cycle_misaligned hr hq ho s,
    cycle_of_terminal hi (terminal_iff.2 hs) hr⟩⟩
  by_cases hread : ∃ off, i = .hostRead off
  · obtain ⟨off, rfl⟩ := hread
    have ho : off.toNat % 4 = 0 := by simpa [WellFormed, Instr.wellFormed, offsetAligned_eq_decide] using hwf
    exact ⟨_, exec_hostRead_aligned ho s, fun hn => absurd rfl (hn off)⟩
  · exact ⟨s.regRdata, exec_of_terminal (terminal_iff.2 hs) hi (not_exists.1 hread), fun _ => rfl⟩

/-- Settles O36: both claims hold of every `SessionMove`. -/
theorem releasedSetOnTerminalEntry : Obligations.ReleasedSetOnTerminalEntry :=
  fun _ _ _ hi h => ⟨(sessionMove_exec hi h).released_eq, (sessionMove_exec hi h).state_eq_of_terminal⟩

/-- Settles O41: the invariant gives the outcome, and the move that ended the session where it was taken. -/
theorem sessionOutcomesAndFrameCounts : Obligations.SessionOutcomesAndFrameCounts := by
  refine ⟨fun s hi ht => sessionOutcome_of_terminal hi ht, fun s t hi hnc hnf h ht => ?_⟩
  refine ⟨sessionOutcome_of_terminal (inv_step hi h) ht, ?_⟩
  obtain hidle | hk | ⟨⟨-, hu⟩ | ⟨-, hu⟩, -, -⟩ | ⟨hs, hc, -, -⟩ | ⟨-, hf, hfs, -⟩ := step_reset_or_sessionMove hi h
  · simp [hidle] at ht
  · rw [hk.state] at ht
    exact absurd ht (not_or.2 ⟨hnc, hnf⟩)
  · simp [hu] at ht
  · simp [hu] at ht
  · refine ⟨fun hf => by simp [hc] at hf, fun _ hidle => ?_⟩
    simp [hidle, UploadState.inSession] at hs
  · exact ⟨fun _ => hfs, fun hc => by simp [hf] at hc⟩

end Sys2Proof.Proofs
end

section
/-! The frame of each operation (R164, R170, R174, R176, R180, R181, R185, R186, R243, R270): the fields its rule does
not write stay. -/

namespace Sys2Proof.Safety

open Sys2Proof.Machine

/-- A state differs from itself in no field. -/
theorem changedBy_self (i : Instr) (s : State) : changedBy i s s = s := by
  cases i <;> rfl

/-- EMIT_FRAME writes TX, the counters, the window, the checksum unit and the serializer, as each frame operation may
(R164). -/
theorem eq_changedBy_of_emitFrame {cmd : Byte} {p : Payload} {s t : State}
    (h : emitFrame .transaction cmd p s = .next t) : t = changedBy .frameAllocateMemory s t := by
  obtain ⟨-, -, rfl⟩ := emitFrame_transaction_next.1 h
  rfl

theorem eq_changedBy_of_startSession {s t : State} (ignored : BitVec 31)
    (h : startSession .transaction s = .next t) : t = changedBy (.hostStart ignored) s t := by
  obtain ⟨-, rfl⟩ | ⟨-, -, -, rfl⟩ | ⟨-, -, -, u, hu, rfl⟩ := startSession_next h
  · rfl
  · rfl
  · obtain ⟨-, -, rfl⟩ := emitFrame_transaction_next.1 hu
    rfl

theorem eq_changedBy_of_onSuccess {s t : State} (h : onSuccess .transaction (closeWindow s) = .next t) :
    t = changedBy .ackSuccess s t := by
  obtain ⟨-, rfl⟩ | ⟨-, -, rfl⟩ | ⟨-, -, u, hu, rfl⟩ | ⟨-, -, hu⟩ | ⟨-, -, rfl⟩ := onSuccess_next h
  · rfl
  · rfl
  · obtain ⟨-, -, rfl⟩ := emitFrame_transaction_next.1 hu
    rfl
  · obtain ⟨-, -, rfl⟩ := emitFrame_transaction_next.1 hu
    rfl
  · rfl

theorem eq_changedBy_of_onErrorCode {c code : Byte} {s t : State} (h : onErrorCode c (closeWindow s) = .next t) :
    t = changedBy (.ackError code) s t := by
  obtain ⟨-, rfl⟩ | ⟨-, rfl⟩ | ⟨-, rfl⟩ := onErrorCode_next h <;> rfl

theorem eq_changedBy_of_onTimeout {s t : State} (h : onTimeout (closeWindow s) = .next t) :
    t = changedBy .ackTimeout s t := by
  obtain ⟨-, rfl⟩ | ⟨-, rfl⟩ | ⟨-, rfl⟩ := onTimeout_next h <;> rfl

/-- A link event is discarded, or an open window takes it (R178, R184). -/
theorem eq_changedBy_of_linkEvent {i : Instr} {r : AckResponse} {s t : State} (h : linkEvent r s = .next t)
    (hopen : takeEvent .transaction r s = .next t → t = changedBy i s t) : t = changedBy i s t := by
  obtain ⟨-, rfl⟩ | ⟨-, h⟩ := linkEvent_next h
  · exact (changedBy_self i t).symm
  · exact hopen h

end Sys2Proof.Safety

namespace Sys2Proof.Proofs

open Sys2Proof.Machine Sys2Proof.Safety

/-- Settles O40: operation by operation, from what its rule can do. -/
theorem operationsChangeOnlyTheirFields : Obligations.OperationsChangeOnlyTheirFields := by
  intro s t i hwf h
  cases i with
  | frameAllocateMemory =>
    obtain ⟨-, rfl⟩ | ⟨-, h⟩ := frameAllocateMemory_next h
    · exact (changedBy_self _ t).symm
    · exact eq_changedBy_of_emitFrame h
  | frameBinaryBlock =>
    obtain ⟨-, rfl⟩ | ⟨-, h⟩ := frameBinaryBlock_next h
    · exact (changedBy_self _ t).symm
    · exact eq_changedBy_of_emitFrame h
  | frameBinaryBlockLast len =>
    obtain rfl | ⟨-, -, h⟩ := frameBinaryBlockLast_next h
    · exact (changedBy_self _ t).symm
    · exact eq_changedBy_of_emitFrame h
  | ackSuccess => exact eq_changedBy_of_linkEvent h eq_changedBy_of_onSuccess
  | ackError code =>
    have hc : code ≠ Config.ackSuccess := by simpa [WellFormed, Instr.wellFormed] using hwf
    exact eq_changedBy_of_linkEvent h fun h => eq_changedBy_of_onErrorCode ((if_neg hc).symm.trans h)
  | ackTimeout => exact eq_changedBy_of_linkEvent h eq_changedBy_of_onTimeout
  | hostStart ignored => exact eq_changedBy_of_startSession ignored h
  | hostCtrlNop ignored => cases h; rfl
  | hostWriteImageLen len =>
    obtain ⟨-, rfl⟩ | ⟨-, rfl⟩ := hostWriteImageLen_next h <;> rfl
  | hostWriteIgnored off data => cases h; rfl
  | hostRead off =>
    obtain ⟨-, rfl⟩ := hostRead_next h
    rfl
  | reset => cases h; rfl

end Sys2Proof.Proofs
end

section
/-! The checksum unit over several cycles (R203 to R205): counting down, and the eight cycles of a byte. -/

namespace Sys2Proof.Machine

open Sys2Proof.Safety

theorem crcCycle_of_busy {s : State} (h : s.crcCnt ≠ 0#4) :
    crcCycle false none s = .next { s with crc := crcBit s.crc, crcCnt := s.crcCnt - 1#4 } := by
  simp [crcCycle, State.crcBusy, h]

theorem crcCycle_load_of_busy {s : State} (b : Byte) (h : s.crcCnt ≠ 0#4) :
    crcCycle false (some b) s = .fault .crcLoadBusy := by
  simp [crcCycle, State.crcBusy, h]

/-- While it counts down, each cycle takes one CRC_BIT (R203). -/
theorem crcIdleCycles_of_le {k : Nat} {s : State} (h : k ≤ s.crcCnt.toNat) :
    crcIdleCycles k s = .next { s with crc := crcBits k s.crc, crcCnt := s.crcCnt - BitVec.ofNat 4 k } := by
  induction k generalizing s with
  | zero => simp [crcIdleCycles, crcBits]
  | succ k ih =>
    have hbusy : s.crcCnt ≠ 0#4 := by bv_omega
    have hrest : k ≤ (s.crcCnt - 1#4).toNat := by bv_omega
    have hcnt : s.crcCnt - 1#4 - BitVec.ofNat 4 k = s.crcCnt - BitVec.ofNat 4 (k + 1) := by bv_omega
    rw [crcIdleCycles, crcCycle_of_busy hbusy, andThen_next, ih hrest]
    simp only [hcnt, crcBits]

/-- Eight cycles after the load the unit holds CRC_BYTE and is at rest (R205). -/
theorem crcIdleCycles_eight (c b : Byte) (s : State) :
    crcIdleCycles 8 { s with crc := c ^^^ b, crcCnt := 8#4 } = .next { s with crc := crcByte c b, crcCnt := 0#4 } := by
  rw [crcIdleCycles_of_le (Nat.le_refl 8)]
  simp [crcByte]

/-- Bytes fed to the unit at rest, each with its eight cycles, are run through the register (R114, R205). -/
theorem crcFeed_of_not_busy {s : State} (data : List Byte) (h : s.crcCnt = 0#4) :
    crcFeed data s = .next { s with crc := crcRun s.crc data, crcCnt := 0#4 } := by
  induction data generalizing s with
  | nil =>
    rw [crcFeed, ← h]
    rfl
  | cons b bs ih =>
    rw [crcFeed, crcCycle_load b h, andThen_next, crcIdleCycles_eight, andThen_next, ih (by rfl)]
    rfl

end Sys2Proof.Machine

namespace Sys2Proof.Proofs

open Sys2Proof.Machine Sys2Proof.Safety

/-- Settles O7: the five cases of one cycle, and the count-down of `crcIdleCycles_of_le` after a load. -/
theorem checksumUnitTakesEightCycles : Obligations.ChecksumUnitTakesEightCycles := by
  refine ⟨fun _ _ => rfl, fun b _ h => crcCycle_load_of_busy b h, fun _ h => crcCycle_of_busy h,
    fun _ h => crcCycle_of_not_busy h, fun b _ h => crcCycle_load b h,
    fun data s => crcFeed_of_not_busy (s := { s with crc := crcInit, crcCnt := 0#4 }) data rfl, fun b s h => ?_⟩
  rw [crcCycle_load b h]
  refine ⟨fun k hk => ⟨_, crcIdleCycles_of_le (Nat.le_of_lt hk), ?_⟩, crcIdleCycles_eight s.crc b s⟩
  have hcnt : 8#4 - BitVec.ofNat 4 k ≠ 0#4 := by bv_omega
  simpa [State.crcBusy] using hcnt

end Sys2Proof.Proofs
end

section
/-! What the register port and the link sampling of a cycle leave of the TX stream and of `ack_wait`: only the
serializer sends a byte, and only it opens a window (R206, R216). -/

namespace Sys2Proof.Machine

theorem andThen_congr {r : Result} {f g : State → Result} (h : ∀ u, r = .next u → f u = g u) :
    andThen r f = andThen r g := by
  cases r with
  | next u => exact h u rfl
  | fault e => rfl
  | refused e => rfl

/-- `t` has the TX stream and the `ack_wait` of `s`. -/
structure TxAndWindowKept (s t : State) : Prop where
  tx : t.tx = s.tx
  ackWait : t.ackWait = s.ackWait

theorem TxAndWindowKept.refl (s : State) : TxAndWindowKept s s := ⟨rfl, rfl⟩

/-- In a cycle EMIT_FRAME loads the serializer, and no byte has been sent yet (R210). -/
theorem txAndWindowKept_of_emitFrame {cmd : Byte} {p : Payload} {s t : State}
    (h : emitFrame .cycle cmd p s = .next t) : TxAndWindowKept s t := by
  obtain ⟨-, -, rfl⟩ := emitFrame_cycle_next.1 h
  exact ⟨rfl, rfl⟩

theorem txAndWindowKept_of_startSession {s t : State} (h : startSession .cycle s = .next t) :
    TxAndWindowKept s t := by
  obtain ⟨-, rfl⟩ | ⟨-, -, -, rfl⟩ | ⟨-, -, -, u, hu, rfl⟩ := startSession_next h
  · exact .refl t
  · exact ⟨rfl, rfl⟩
  · obtain ⟨htx, ha⟩ := txAndWindowKept_of_emitFrame hu
    exact ⟨htx, ha⟩

theorem txAndWindowKept_of_hostCycle {p : PortsIn} {s t : State} (h : hostCycle p s = .next t) :
    TxAndWindowKept s t := by
  obtain ⟨-, rfl⟩ | ⟨-, i, -, h⟩ := hostCycle_next h
  · exact .refl t
  · obtain h | ⟨-, len, rfl⟩ | ⟨r, rfl⟩ | rfl := Safety.hostOpCycle_next h
    · exact txAndWindowKept_of_startSession h
    · exact ⟨rfl, rfl⟩
    · exact ⟨rfl, rfl⟩
    · exact .refl t

theorem txAndWindowKept_of_onSuccess {s t : State} (h : onSuccess .cycle s = .next t) : TxAndWindowKept s t := by
  obtain ⟨-, rfl⟩ | ⟨-, -, rfl⟩ | ⟨-, -, u, hu, rfl⟩ | ⟨-, -, hu⟩ | ⟨-, -, rfl⟩ := onSuccess_next h
  · exact .refl t
  · exact ⟨rfl, rfl⟩
  · obtain ⟨htx, ha⟩ := txAndWindowKept_of_emitFrame hu
    exact ⟨htx, ha⟩
  · obtain ⟨htx, ha⟩ := txAndWindowKept_of_emitFrame hu
    exact ⟨htx, ha⟩
  · exact ⟨rfl, rfl⟩

/-- Past the closing of the window an event leaves the stream and the window alone (R178). -/
theorem txAndWindowKept_of_takeEvent {r : AckResponse} {s t : State} (h : takeEvent .cycle r s = .next t) :
    TxAndWindowKept (closeWindow s) t := by
  obtain ⟨-, h⟩ | ⟨-, h⟩ | ⟨c, -, -, h⟩ := takeEvent_next h
  · obtain ⟨-, rfl⟩ | ⟨-, rfl⟩ | ⟨-, rfl⟩ := onTimeout_next h <;> exact ⟨rfl, rfl⟩
  · exact txAndWindowKept_of_onSuccess h
  · obtain ⟨-, rfl⟩ | ⟨-, rfl⟩ | ⟨-, rfl⟩ := onErrorCode_next h <;> exact ⟨rfl, rfl⟩

theorem tx_eq_of_linkCycle {p : PortsIn} {s t : State} (h : linkCycle p s = .next t) : t.tx = s.tx := by
  obtain rfl | ⟨-, r, -, h⟩ := linkCycle_next h
  · rfl
  · exact (txAndWindowKept_of_takeEvent h).tx

end Sys2Proof.Machine

namespace Sys2Proof.Proofs

open Sys2Proof.Machine

/-- Settles O55: a cycle with `rst` is RESET with the level of `link_ready` that the port gives. -/
theorem cycleResetWins : Obligations.CycleResetWins :=
  fun _ _ hr => if_pos hr

/-- Settles O59: the register port leaves `ack_wait` 0, and the link sampling then discards what it is given. -/
theorem cycleDiscardsWithoutWindow : Obligations.CycleDiscardsWithoutWindow := by
  intro p s valid timeout data ha
  unfold cycle
  refine ite_congr rfl (fun _ => rfl) fun _ => andThen_congr fun u hu => ?_
  have hua : u.ackWait = false := (txAndWindowKept_of_hostCycle hu).ackWait.trans ha
  rw [linkCycle_of_not_ackWait _ hua, linkCycle_of_not_ackWait _ hua]

end Sys2Proof.Proofs
end

section
/-! What the link delivers in a cycle of an open window, as equations (R216, R174 to R181). -/

namespace Sys2Proof.Machine

section
variable {p : PortsIn} {s : State} (ha : s.ackWait = true)
include ha

/-- A byte is taken, whether or not a timeout comes with it (R249(b)). -/
theorem linkCycle_of_byte (hv : p.rxValid = true) : linkCycle p s = takeEvent .cycle (.status p.rxData) s := by
  simp [linkCycle, PortsIn.linkEvent?, hv, ha, parseAck]

theorem linkCycle_of_timeout (hv : p.rxValid = false) (ht : p.rxTimeout = true) :
    linkCycle p s = takeEvent .cycle .timeoutError s := by
  simp [linkCycle, PortsIn.linkEvent?, hv, ht, ha, parseAck]

theorem linkCycle_of_success (hv : p.rxValid = true) (hd : p.rxData = 0x00#8) :
    linkCycle p s = onSuccess .cycle (closeWindow s) :=
  (linkCycle_of_byte ha hv).trans (if_pos hd)

theorem linkCycle_of_error (hv : p.rxValid = true) (hd : p.rxData ≠ 0x00#8) :
    linkCycle p s = onErrorCode p.rxData (closeWindow s) :=
  (linkCycle_of_byte ha hv).trans (if_neg hd)

end

theorem linkCycle_of_nothing {p : PortsIn} (hv : p.rxValid = false) (ht : p.rxTimeout = false) (s : State) :
    linkCycle p s = .next s := by
  simp [linkCycle, PortsIn.linkEvent?, hv, ht]

/-- In a cycle a success acknowledgment loads the serializer with the block it asks for (R174, R176, R210). -/
theorem onSuccess_cycle_block {s : State} {i : BlockNum} (hp : s.serPhase = .idle) (hb : i.toNat < s.blockCount.toNat)
    (hbegin : i.toNat * 512 < s.imageLen.toNat)
    (hn : s.state = .allocateSent ∧ i = 0#24 ∨ s.state = .uploading ∧ i.toNat = s.blockIndex.toNat + 1) :
    onSuccess .cycle s = .next (moveTo .uploading
      (serLoaded (blockCmd s.blockCount.toNat i.toNat) (.block i.toNat) (atBlock i s))) := by
  have hr : (Payload.block i.toNat).readable (atBlock i s) = true := decide_eq_true hbegin
  have he : emitBlock .cycle i.toNat (atBlock i s) = _ := emitFrame_cycle_next.2 ⟨hp, hr, rfl⟩
  obtain ⟨hs, rfl⟩ | ⟨hs, hi⟩ := hn
  · have hne : s.blockCount ≠ 0#24 := by bv_omega
    simp only [onSuccess, hs, hne, if_false]
    exact congrArg (andThen · _) he
  · have hnext : s.blockIndex + 1#24 = i := by bv_omega
    simp only [onSuccess, hs, hnext, ← hi, hb, if_true, he]
    exact congrArg _ (Safety.moveTo_eq_self (s := serLoaded _ _ (atBlock i s)) hs).symm

end Sys2Proof.Machine

namespace Sys2Proof.Safety

open Sys2Proof.Machine

/-- With the serializer at rest a cycle without a register access is its link sampling (R216): what that loads does not
advance yet (R210), and what it leaves at rest stays so. -/
theorem cycle_of_linkCycle {p : PortsIn} {s v : State} (hi : Inv s) (hr : p.rst = false) (hq : p.regReq = false)
    (hp : s.serPhase = .idle) (hv : linkCycle p { s with linkReady := p.linkReady } = .next v) :
    cycle p s = .next v := by
  have hrest := (inv_linkCycle (hi.setLinkReady _) hv).emission.rest
  rw [cycle_noAccess hr hq, hv, andThen_next]
  by_cases hpv : v.serPhase = .idle
  · rw [if_neg (by simp [hpv]), serCycle_idle _ _ hpv (hrest (.inl hpv))]
  · rw [if_pos (by simp [hp, hpv])]

end Sys2Proof.Safety

namespace Sys2Proof.Proofs

open Sys2Proof.Machine Sys2Proof.Safety

/-- Settles O57: the link sampling hands the event to its transition, and with the serializer at rest that is the whole
cycle (`cycle_of_linkCycle`). -/
theorem cycleByteBeatsTimeout : Obligations.CycleByteBeatsTimeout := by
  refine ⟨fun p s ha => ⟨linkCycle_of_byte ha, linkCycle_of_timeout ha,
    fun hv ht => linkCycle_of_nothing hv ht s, fun t hd h => ?_⟩, fun p s hi ha hr hq => ?_⟩
  · have htake : ∃ r, takeEvent .cycle r s = .next t := by
      cases hv : p.rxValid with
      | true => exact ⟨_, linkCycle_of_byte ha hv ▸ h⟩
      | false => exact ⟨_, linkCycle_of_timeout ha hv (by simpa [hv] using hd) ▸ h⟩
    obtain ⟨r, h⟩ := htake
    exact (txAndWindowKept_of_takeEvent h).ackWait
  obtain ⟨hin, hp⟩ := windowOpen_iff.1 (hi.ackWait_eq ▸ ha)
  have hcycle := fun v => cycle_of_linkCycle (v := v) hi hr hq hp
  refine ⟨fun i hv hd hb hn => hcycle _ ?_, fun hv hd hall => hcycle _ ?_, fun hv hd => hcycle _ ?_,
    fun hv ht => hcycle _ ?_, fun hv ht => hcycle _ (linkCycle_of_nothing hv ht _)⟩
  · obtain ⟨-, hcount, -⟩ := hi.latched (started_of_inSession hin)
    have hi24 : (BitVec.ofNat 24 i).toNat = i := by bv_omega
    rw [linkCycle_of_success (by exact ha) hv hd]
    have hsend := onSuccess_cycle_block (s := closeWindow { s with linkReady := p.linkReady })
      (i := BitVec.ofNat 24 i) hp (hi24.symm ▸ hb) (hi24.symm ▸ block_begins (hcount ▸ hb))
      (hn.imp (fun h => ⟨h.1, by rw [h.2]⟩) (fun h => ⟨h.1, hi24.trans h.2⟩))
    rw [hi24] at hsend
    exact hsend
  · rw [linkCycle_of_success (by exact ha) hv hd]
    exact onSuccess_last (s := closeWindow { s with linkReady := p.linkReady }) hall
  · rw [linkCycle_of_error (by exact ha) hv hd]
    obtain hs | hs := inSession_iff.1 hin
    · rw [onErrorCode_allocateSent (by exact hs), if_pos hs, if_pos hs]
      rfl
    · rw [onErrorCode_uploading (by exact hs), if_neg (by simp [hs]), if_neg (by simp [hs])]
      rfl
  · rw [linkCycle_of_timeout (by exact ha) hv ht, takeEvent]
    obtain hs | hs := inSession_iff.1 hin
    · rw [onTimeout_allocateSent (by exact hs), if_pos hs]
      rfl
    · rw [onTimeout_uploading (by exact hs), if_neg (by simp [hs])]
      rfl

end Sys2Proof.Proofs
end

section
/-! The read port is a register that no part of a cycle reads, so a read runs beside the rest of the cycle (R65, R202,
R249(d)). -/

namespace Sys2Proof.Machine

/-- The value at `reg_rdata` is `r` (R202). -/
def withRdata (r : Option Word) (s : State) : State := { s with regRdata := r }

@[simp] theorem withRdata_state (r : Option Word) (s : State) : (withRdata r s).state = s.state := rfl
@[simp] theorem withRdata_serPhase (r : Option Word) (s : State) : (withRdata r s).serPhase = s.serPhase := rfl
@[simp] theorem withRdata_ackWait (r : Option Word) (s : State) : (withRdata r s).ackWait = s.ackWait := rfl
@[simp] theorem withRdata_crcBusy (r : Option Word) (s : State) : (withRdata r s).crcBusy = s.crcBusy := rfl
@[simp] theorem withRdata_txByte? (r : Option Word) (s : State) : (withRdata r s).txByte? = s.txByte? := rfl

/-- `f` neither reads nor writes the read port. -/
def IgnoresReadPort (f : State → Result) : Prop :=
  ∀ (r : Option Word) (s : State), f (withRdata r s) = andThen (f s) fun t => .next (withRdata r t)

theorem IgnoresReadPort.andThen {f g : State → Result} (hf : IgnoresReadPort f) (hg : IgnoresReadPort g) :
    IgnoresReadPort fun s => andThen (f s) g := by
  intro r s
  simp only [hf r s]
  cases f s with
  | next t => exact hg r t
  | fault e => rfl
  | refused e => rfl

/-! The transitions. -/

theorem ignoresReadPort_emitFrame (cmd : Byte) (p : Payload) : IgnoresReadPort (emitFrame .cycle cmd p) := by
  intro r s
  have hr : p.readable (withRdata r s) = p.readable s := by cases p <;> rfl
  have hl : serLoaded cmd p (withRdata r s) = withRdata r (serLoaded cmd p s) := by cases p <;> rfl
  simp only [emitFrame, withRdata_serPhase, hr, hl]
  split_ifs <;> rfl

theorem ignoresReadPort_startBlock : IgnoresReadPort fun s =>
    andThen (emitBlock .cycle 0 (atBlock 0#24 s)) fun t => .next (moveTo .uploading t) :=
  IgnoresReadPort.andThen (fun r s => ignoresReadPort_emitFrame _ (.block 0) r (atBlock 0#24 s)) fun _ _ => rfl

theorem ignoresReadPort_onSuccess : IgnoresReadPort (onSuccess .cycle) := by
  intro r s
  cases hs : s.state <;> simp only [onSuccess, withRdata_state, hs]
  case allocateSent =>
    by_cases hb : s.blockCount = 0#24
    · rw [if_pos hb, if_pos (by exact hb)]
      rfl
    · rw [if_neg hb, if_neg (by exact hb)]
      exact ignoresReadPort_startBlock r s
  case uploading =>
    by_cases h₁ : s.blockIndex.toNat + 1 < s.blockCount.toNat
    · rw [if_pos h₁, if_pos (by exact h₁)]
      exact ignoresReadPort_emitFrame _ (.block _) r (atBlock (s.blockIndex + 1#24) s)
    · rw [if_neg h₁, if_neg (by exact h₁)]
      by_cases h₂ : s.blockIndex.toNat + 1 = s.blockCount.toNat
      · rw [if_pos h₂, if_pos (by exact h₂)]
        rfl
      · rw [if_neg h₂, if_neg (by exact h₂)]
        rfl
  all_goals rfl

theorem ignoresReadPort_onErrorCode (c : Byte) : IgnoresReadPort (onErrorCode c) := by
  intro r s
  cases hs : s.state <;> simp only [onErrorCode, withRdata_state, hs] <;> rfl

theorem ignoresReadPort_onTimeout : IgnoresReadPort onTimeout := by
  intro r s
  cases hs : s.state <;> simp only [onTimeout, withRdata_state, hs] <;> rfl

theorem ignoresReadPort_takeEvent (e : AckResponse) : IgnoresReadPort (takeEvent .cycle e) := by
  intro r s
  cases e with
  | timeoutError => exact ignoresReadPort_onTimeout r (closeWindow s)
  | status b =>
    simp only [takeEvent]
    split_ifs
    · exact ignoresReadPort_onSuccess r (closeWindow s)
    · exact ignoresReadPort_onErrorCode b r (closeWindow s)

theorem ignoresReadPort_linkCycle (p : PortsIn) : IgnoresReadPort (linkCycle p) := by
  intro r s
  cases he : p.linkEvent? with
  | none => simp only [linkCycle, he, andThen_next]
  | some e =>
    cases ha : s.ackWait with
    | false => simp [linkCycle, he, ha]
    | true => simpa [linkCycle, he, ha] using ignoresReadPort_takeEvent e r s

/-! The serializer and the checksum unit. -/

theorem ignoresReadPort_crcCycle (load : Option Byte) : IgnoresReadPort (crcCycle false load) := by
  intro r s
  cases load <;> cases hb : s.crcBusy <;> simp [crcCycle, hb] <;> rfl

theorem ignoresReadPort_serTransfer (b : Byte) : IgnoresReadPort (serTransfer b) := by
  intro r s
  cases hp : s.serPhase <;> simp only [serTransfer, withRdata_serPhase, hp]
  case idle => rfl
  all_goals
    refine Eq.trans ?_ (ignoresReadPort_crcCycle _ r _)
    rfl

theorem ignoresReadPort_imageAnswer : IgnoresReadPort imageAnswer := by
  intro r s
  unfold imageAnswer
  by_cases hl : s.imgAddr.toNat < s.imageLen.toNat
  · rw [if_pos hl, if_pos (by exact hl)]
    rfl
  · rw [if_neg hl, if_neg (by exact hl)]
    rfl

theorem ignoresReadPort_serWait (ack : Bool) : IgnoresReadPort (serWait ack) := by
  refine IgnoresReadPort.andThen (fun r s => ?_) (ignoresReadPort_crcCycle none)
  by_cases hq : (s.imgReq && ack) = true
  · rw [if_pos hq, if_pos (by exact hq)]
    exact ignoresReadPort_imageAnswer r s
  · rw [if_neg hq, if_neg (by exact hq)]
    rfl

theorem ignoresReadPort_serCycle (ready ack : Bool) : IgnoresReadPort (serCycle ready ack) := by
  intro r s
  simp only [serCycle, withRdata_txByte?]
  cases s.txByte? with
  | none => exact ignoresReadPort_serWait ack r s
  | some b =>
    cases ready with
    | true => exact ignoresReadPort_serTransfer b r s
    | false => exact ignoresReadPort_serWait ack r s

/-- What follows the register access in a cycle that begins with `ser_phase` at `phase`: the link sampling, then the
serializer unless it was loaded in this cycle (log 9). -/
def restOfCycle (phase : SerPhase) (p : PortsIn) (s : State) : Result :=
  andThen (linkCycle p s) fun v =>
    if phase == .idle && v.serPhase != .idle then .next v else serCycle p.txReady p.imgAck v

theorem ignoresReadPort_restOfCycle (phase : SerPhase) (p : PortsIn) : IgnoresReadPort (restOfCycle phase p) := by
  refine (ignoresReadPort_linkCycle p).andThen fun r v => ?_
  rw [withRdata_serPhase]
  split_ifs
  · rfl
  · exact ignoresReadPort_serCycle _ _ r v

/-- A cycle without `rst`: the register access, then the rest (R200, R249). -/
theorem cycle_eq_restOfCycle {p : PortsIn} (hr : p.rst = false) (s : State) :
    cycle p s = andThen (hostCycle p { s with linkReady := p.linkReady }) (restOfCycle s.serPhase p) :=
  if_neg (by simp [hr])

theorem cycle_withoutAccess {p : PortsIn} (hr : p.rst = false) (s : State) :
    cycle { p with regReq := false } s = restOfCycle s.serPhase p { s with linkReady := p.linkReady } :=
  cycle_noAccess hr rfl

end Sys2Proof.Machine
end

section
/-! The register port of a cycle as equations (R64, R96, R185, R202): which HOSTOP an access is, and the accesses that
leave the rest of the cycle as it is. -/

namespace Sys2Proof

/-- A CTRL write with bit 0 clear is HOST_CTRL_NOP, whatever its other bits are (R23). -/
theorem decode_write_nop {data : Word} (h : data.getLsbD 0 = false) :
    decode (.hostop (hostopWord 1#1 0x00#6 data)) = .ok (.hostCtrlNop (data.extractLsb' 1 31)) := by
  have hbit : data.extractLsb' 0 1 = 0#1 := by
    refine BitVec.eq_of_getLsbD_eq fun k hk => ?_
    obtain rfl : k = 0 := by omega
    simpa using h
  conv_lhs => rw [← ctrlData_fields data, hbit]
  exact decode_ctrlNop _

end Sys2Proof

namespace Sys2Proof.Machine

/-- The register port runs the HOSTOP as the transaction level does; of the operations a HOSTOP word can carry only
START emits a frame, which the two levels send differently (R202, R218). -/
theorem hostOpCycle_eq_exec {op : BitVec 39} {i : Instr} (hd : decode (.hostop op) = .ok i)
    (hn : ∀ ignored, i ≠ .hostStart ignored) (s : State) : hostOpCycle i s = exec i s := by
  obtain ⟨hw, -⟩ := isWordOf_of_decode hd
  cases i with
  | hostStart ignored => exact absurd rfl (hn ignored)
  | hostCtrlNop ignored => rfl
  | hostWriteImageLen len => rfl
  | hostWriteIgnored off data => rfl
  | hostRead off => rfl
  | _ => cases hw

section
variable {p : PortsIn} (hq : p.regReq = true)
include hq

theorem hostCycle_read (hw : p.regWe = false) (ho : p.regOff.toNat % 4 = 0) (s : State) :
    hostCycle p s = .next (withRdata (some (s.readReg p.regOff)) s) := by
  have hd : decode (.hostop (hostopOfAccess p.regWe p.regOff p.regWdata)) = .ok (.hostRead p.regOff) := by
    rw [hw]
    exact decode_read ho
  exact (hostCycle_of_decode_ok hq hd s).trans (exec_hostRead_aligned ho s)

/-- Out of Idle no write has an effect (R173, R185). -/
theorem hostCycle_write_of_ne_idle (hw : p.regWe = true) (ho : p.regOff.toNat % 4 = 0) {s : State}
    (hs : s.state ≠ .idle) : hostCycle p s = .next s := by
  obtain ⟨i, hd, hn⟩ := decode_write p.regWdata ho
  rw [hostCycle_of_decode_ok hq (by rw [hw]; exact hd)]
  cases i with
  | hostStart ignored => exact startSession_of_ne_idle hs
  | hostWriteImageLen len => exact exec_hostWriteImageLen_of_ne_idle len hs
  | hostRead off => exact absurd rfl (hn off)
  | _ => rfl

/-- A write of a read-only or reserved register has no effect (R24, R38). -/
theorem hostCycle_write_ignored (hw : p.regWe = true) (ho : p.regOff.toNat % 4 = 0) (hctrl : p.regOff ≠ 0x00#6)
    (hlen : p.regOff ≠ 0x08#6) (s : State) : hostCycle p s = .next s := by
  have ha : offsetAligned p.regOff = true := by simpa [offsetAligned_eq_decide] using ho
  refine hostCycle_of_decode_ok hq (i := .hostWriteIgnored p.regOff p.regWdata) ?_ s
  rw [hw]
  exact decode_writeIgnored _ (offsetWriteIgnored_iff.2 ⟨ha, hctrl, hlen⟩)

/-- A write of CTRL with START = 0 has no effect (R23). -/
theorem hostCycle_write_ctrlNop (hw : p.regWe = true) (ho : p.regOff = 0x00#6) (hb : p.regWdata.getLsbD 0 = false)
    (s : State) : hostCycle p s = .next s := by
  refine hostCycle_of_decode_ok hq (i := .hostCtrlNop (p.regWdata.extractLsb' 1 31)) ?_ s
  rw [hw, ho]
  exact decode_write_nop hb

theorem hostCycle_write_imageLen (hw : p.regWe = true) (ho : p.regOff = 0x08#6) {s : State} (hs : s.state = .idle) :
    hostCycle p s = .next { s with imageLen := p.regWdata } := by
  refine (hostCycle_of_decode_ok hq (i := .hostWriteImageLen p.regWdata) ?_ s).trans
    (exec_hostWriteImageLen_idle p.regWdata hs)
  rw [hw, ho]
  exact decode_writeImageLen _

/-- A read answers at the read port, and the rest of the cycle is as without it (R186, R249(d)). -/
theorem cycle_read (hr : p.rst = false) (hw : p.regWe = false) (ho : p.regOff.toNat % 4 = 0) (s : State) :
    cycle p s = andThen (cycle { p with regReq := false } s) fun t =>
      .next (withRdata (some (State.readReg { s with linkReady := p.linkReady } p.regOff)) t) := by
  rw [cycle_eq_restOfCycle hr, hostCycle_read hq hw ho, andThen_next, ignoresReadPort_restOfCycle,
    cycle_withoutAccess hr]

end

/-- An access without an effect leaves the cycle as without it (R249(d)). -/
theorem cycle_of_hostCycle_eq_self {p : PortsIn} {s : State} (hr : p.rst = false)
    (hu : hostCycle p { s with linkReady := p.linkReady } = .next { s with linkReady := p.linkReady }) :
    cycle p s = cycle { p with regReq := false } s := by
  rw [cycle_eq_restOfCycle hr, hu, andThen_next, cycle_withoutAccess hr]

end Sys2Proof.Machine

namespace Sys2Proof.Safety

open Sys2Proof.Machine

/-- Out of a session a cycle whose access starts none is that access: no window is open and the serializer is at rest
(R217). -/
theorem cycle_of_hostCycle_not_inSession {p : PortsIn} {s u : State} (hi : Inv s) (hr : p.rst = false)
    (hu : hostCycle p { s with linkReady := p.linkReady } = .next u) (hn : u.state.inSession = false) :
    cycle p s = .next u := by
  have hiu := inv_hostCycle (hi.setLinkReady _) hu
  have hp := hiu.serPhase_eq_idle hn
  rw [cycle_of_hostCycle hr hu (hiu.ackWait_eq_false hn), if_neg (by simp [hp])]
  exact serCycle_idle _ _ hp (hiu.emission.rest (.inl hp))

end Sys2Proof.Safety

namespace Sys2Proof.Proofs

open Sys2Proof.Machine Sys2Proof.Safety

/-- Settles O58: a read runs beside the rest of the cycle (`cycle_read`), a write without effect is none
(`cycle_of_hostCycle_eq_self`), and in Idle the access is all there is of the cycle. -/
theorem cycleRegisterPortRunsHostop : Obligations.CycleRegisterPortRunsHostop := by
  refine fun p s hq => ⟨fun i hd hn => ?_, fun hr ho => cycle_misaligned hr hq ho s,
    fun hr ho hw => cycle_read hq hr hw ho s, fun hr ho hw h => cycle_of_hostCycle_eq_self hr ?_,
    fun hi hs hr hw => ⟨fun ho => ?_, fun ho hb hl => ?_, fun ho hb hl hlink => ?_⟩⟩
  · rw [hostCycle_of_decode_ok hq hd, hostOpCycle_eq_exec hd hn]
  · obtain hs | ⟨hctrl, hlen⟩ | ⟨hctrl, hb⟩ := h
    · exact hostCycle_write_of_ne_idle hq hw ho hs
    · exact hostCycle_write_ignored hq hw ho hctrl hlen _
    · exact hostCycle_write_ctrlNop hq hw hctrl hb _
  · exact cycle_of_hostCycle_not_inSession hi hr (hostCycle_write_imageLen hq hw ho hs)
      (by simp [hs, UploadState.inSession])
  · rw [cycle_eq_restOfCycle hr, hostCycle_start hq hw ho hb, startSession_too_long (by exact hs) (by exact hl),
      andThen_refused]
  · refine cycle_of_hostCycle_not_inSession hi hr ?_ rfl
    rw [hostCycle_start hq hw ho hb, startSession_no_link (by exact hs) (by exact hl) (by exact hlink), ← hlink,
      ← hs]
    rfl

end Sys2Proof.Proofs
end

section
/-! The handshakes of the TX stream and the image port (R206, R207): what an edge of the serializer does to the byte
presented and to the request. -/

namespace Sys2Proof.Machine

/-- With nothing to load the checksum unit writes only its own two registers (R203). -/
theorem crcCycle_none_next {s t : State} (h : crcCycle false none s = .next t) :
    ∃ c n, t = { s with crc := c, crcCnt := n } := by
  obtain ⟨hf, -⟩ | ⟨-, b, hb, -⟩ | ⟨-, -, -, rfl⟩ | ⟨-, -, -, rfl⟩ := crcCycle_next h
  · cases hf
  · cases hb
  · exact ⟨_, _, rfl⟩
  · exact ⟨t.crc, t.crcCnt, rfl⟩

/-- No byte is requested while one is at hand (R207, R213). -/
theorem imgReq_eq_false_of_txByte? {s : State} {b : Byte} (h : s.txByte? = some b) : s.imgReq = false := by
  rw [Bool.eq_false_iff]
  intro hq
  simp only [State.imgReq, Bool.and_eq_true, beq_iff_eq, Option.isNone_iff_eq_none] at hq
  obtain ⟨⟨hp, hsrc⟩, hheld⟩ := hq
  simp [State.txByte?, hp, State.payloadByte?, hsrc, hheld] at h

theorem txByte?_of_imgReq {s : State} (h : s.imgReq = true) : s.txByte? = none := by
  cases hb : s.txByte? with
  | none => rfl
  | some b => simp [imgReq_eq_false_of_txByte? hb] at h

theorem serPhase_of_imgReq {s : State} (h : s.imgReq = true) : s.serPhase ≠ .idle := by
  intro hp
  simp [State.imgReq, hp] at h

theorem serCycle_of_no_byte {s : State} (ready ack : Bool) (h : s.txByte? = none) :
    serCycle ready ack s = serWait ack s := by
  simp only [serCycle, h]

theorem serCycle_of_transfer {s : State} {b : Byte} (ack : Bool) (h : s.txByte? = some b) :
    serCycle true ack s = serTransfer b s := by
  simp [serCycle, h]

theorem serWait_of_no_request {s : State} (ack : Bool) (h : s.imgReq = false) :
    serWait ack s = crcCycle false none s := by
  simp [serWait, h]

/-- An edge without a transfer sends nothing (R206). -/
theorem tx_eq_of_serWait {ack : Bool} {s t : State} (h : serWait ack s = .next t) : t.tx = s.tx := by
  obtain ⟨u, ⟨-, hu⟩ | ⟨-, rfl⟩, ht⟩ := serWait_next h
  · obtain ⟨-, rfl⟩ := imageAnswer_next hu
    obtain ⟨c, n, rfl⟩ := crcCycle_none_next ht
    rfl
  · obtain ⟨c, n, rfl⟩ := crcCycle_none_next ht
    rfl

/-- A request that is not answered is held with its address (R207). -/
theorem imgReq_of_serWait_unanswered {s t : State} (hq : s.imgReq = true) (h : serWait false s = .next t) :
    t.imgReq = true ∧ t.imgAddr = s.imgAddr := by
  obtain ⟨u, ⟨ha, -⟩ | ⟨-, rfl⟩, ht⟩ := serWait_next h
  · simp at ha
  · obtain ⟨c, n, rfl⟩ := crcCycle_none_next ht
    exact ⟨hq, rfl⟩

/-- An answered request is over, and the byte at its address is held (R207). -/
theorem imgReq_of_serWait_answered {s t : State} (hq : s.imgReq = true) (h : serWait true s = .next t) :
    t.imgReq = false ∧ t.serHeld = some (imageByte s.image s.imgAddr.toNat) := by
  obtain ⟨u, ⟨-, hu⟩ | ⟨ha, -⟩, ht⟩ := serWait_next h
  · obtain ⟨-, rfl⟩ := imageAnswer_next hu
    obtain ⟨c, n, rfl⟩ := crcCycle_none_next ht
    exact ⟨by simp [State.imgReq], rfl⟩
  · simp [hq] at ha

/-- Out of Idle a register access writes at most the read port (R173, R185). -/
theorem hostCycle_next_of_ne_idle {p : PortsIn} {s t : State} (hs : s.state ≠ .idle) (h : hostCycle p s = .next t) :
    ∃ r, t = withRdata r s := by
  obtain ⟨-, rfl⟩ | ⟨-, i, -, h⟩ := hostCycle_next h
  · exact ⟨t.regRdata, rfl⟩
  · obtain h | ⟨hidle, -⟩ | ⟨r, rfl⟩ | rfl := Safety.hostOpCycle_next h
    · rw [startSession_of_ne_idle hs] at h
      cases h
      exact ⟨s.regRdata, rfl⟩
    · exact absurd hidle hs
    · exact ⟨r, rfl⟩
    · exact ⟨t.regRdata, rfl⟩

end Sys2Proof.Machine

namespace Sys2Proof.Safety

open Sys2Proof.Machine

/-- A byte that is presented and not accepted is held, and with it the whole serializer (R206). -/
theorem serCycle_not_accepted {s : State} {b : Byte} (hi : Inv s) (ack : Bool) (hb : s.txByte? = some b) :
    serCycle false ack s = .next s := by
  have hw : serCycle false ack s = serWait ack s := by simp [serCycle, hb]
  rw [hw, serWait_of_no_request _ (imgReq_eq_false_of_txByte? hb),
    crcCycle_of_not_busy (hi.crcCnt_eq_zero_of_txByte? hb)]

theorem tx_eq_of_serTransfer {s t : State} {b : Byte} (hi : Inv s) (hb : s.txByte? = some b)
    (h : serTransfer b s = .next t) : t.tx = s.tx ++ [b] := by
  obtain ht | ht := serTransfer_next hi hb h
  · exact ht.tx
  · exact ht.tx

/-- While a frame is in emission a cycle is one of the serializer: no window is open, and a register access has no part
in it but for the read port (R217, R218). -/
theorem serCycle_of_cycle_emitting {p : PortsIn} {s t : State} (hi : Inv s) (hr : p.rst = false)
    (hn : s.serPhase ≠ .idle) (h : cycle p s = .next t) :
    ∃ r, serCycle p.txReady p.imgAck (withRdata r { s with linkReady := p.linkReady }) = .next t := by
  obtain ⟨hrst, -⟩ | ⟨-, u, v, hu, hv, ⟨⟨hp, -⟩, -⟩ | ⟨-, ht⟩⟩ := cycle_next h
  · simp [hr] at hrst
  · exact absurd hp hn
  · have hs : s.state ≠ .idle := by
      intro hs
      exact hn (hi.serPhase_eq_idle (by rw [hs]; rfl))
    obtain ⟨r, rfl⟩ := hostCycle_next_of_ne_idle (by exact hs) hu
    have ha : s.ackWait = false := hi.ackWait_eq.trans (windowOpen_eq_false (.inr hn))
    rw [linkCycle_of_not_ackWait p (by exact ha)] at hv
    cases hv
    exact ⟨r, ht⟩

/-- With the serializer at rest a cycle sends nothing, whatever starts in it (R210). -/
theorem tx_eq_of_cycle_at_rest {p : PortsIn} {s t : State} (hi : Inv s) (hr : p.rst = false)
    (hp : s.serPhase = .idle) (h : cycle p s = .next t) : t.tx = s.tx := by
  obtain ⟨hrst, -⟩ | ⟨-, u, v, hu, hv, ht⟩ := cycle_next h
  · simp [hr] at hrst
  · have hiv := inv_linkCycle (inv_hostCycle (hi.setLinkReady _) hu) hv
    have htx : v.tx = s.tx := (tx_eq_of_linkCycle hv).trans (txAndWindowKept_of_hostCycle hu).tx
    obtain ⟨-, rfl⟩ | ⟨hloaded, ht⟩ := ht
    · exact htx
    · have hpv : v.serPhase = .idle := by simpa [hp] using hloaded
      rw [serCycle_idle _ _ hpv (hiv.emission.rest (.inl hpv))] at ht
      cases ht
      exact htx

end Sys2Proof.Safety

namespace Sys2Proof.Proofs

open Sys2Proof.Machine Sys2Proof.Safety

/-- Settles O60: a byte or a request is there only while a frame is in emission, and the cycle is then one of the
serializer (`serCycle_of_cycle_emitting`). -/
theorem cycleHoldsHandshakes : Obligations.CycleHoldsHandshakes := by
  intro p s t hi hr h
  have hi' (r : Option Word) : Inv (withRdata r { s with linkReady := p.linkReady }) :=
    (hi.setLinkReady _).setRegRdata r
  refine ⟨fun b hb hready => ?_, fun b hb hready => ?_, fun hb => ?_, fun hq hack => ?_, fun hq hack => ?_⟩
  · obtain ⟨r, ht⟩ := serCycle_of_cycle_emitting hi hr (serPhase_ne_idle_of_txByte? hb) h
    rw [hready, serCycle_not_accepted (hi' r) _ hb] at ht
    cases ht
    exact ⟨hb, rfl⟩
  · obtain ⟨r, ht⟩ := serCycle_of_cycle_emitting hi hr (serPhase_ne_idle_of_txByte? hb) h
    rw [hready, serCycle_of_transfer _ (by exact hb)] at ht
    have htx := tx_eq_of_serTransfer (hi' r) hb ht
    exact htx
  · by_cases hp : s.serPhase = .idle
    · exact tx_eq_of_cycle_at_rest hi hr hp h
    · obtain ⟨r, ht⟩ := serCycle_of_cycle_emitting hi hr hp h
      rw [serCycle_of_no_byte _ _ (by exact hb)] at ht
      have htx := tx_eq_of_serWait ht
      exact htx
  · obtain ⟨r, ht⟩ := serCycle_of_cycle_emitting hi hr (serPhase_of_imgReq hq) h
    rw [serCycle_of_no_byte _ _ (txByte?_of_imgReq (by exact hq)), hack] at ht
    have hreq := imgReq_of_serWait_unanswered (by exact hq) ht
    exact hreq
  · obtain ⟨r, ht⟩ := serCycle_of_cycle_emitting hi hr (serPhase_of_imgReq hq) h
    rw [serCycle_of_no_byte _ _ (txByte?_of_imgReq (by exact hq)), hack] at ht
    have hreq := imgReq_of_serWait_answered (by exact hq) ht
    exact hreq

end Sys2Proof.Proofs
end

section
/-! Runs of clock cycles in which both handshakes are answered at once, while a frame is in emission (R206, R207,
R222). -/

namespace Sys2Proof.Machine

open Sys2Proof.Safety

theorem andThen_assoc (r : Result) (f g : State → Result) :
    andThen (andThen r f) g = andThen r fun s => andThen (f s) g := by
  cases r <;> rfl

theorem cycles_append (ps qs : List PortsIn) (s : State) :
    cycles (ps ++ qs) s = andThen (cycles ps s) (cycles qs) := by
  induction ps generalizing s with
  | nil => rfl
  | cons p ps ih =>
    rw [List.cons_append, cycles, cycles, andThen_assoc]
    exact congrArg _ (funext ih)

/-- `k` cycles with the ports ready take `s` to `t`; `link_ready` keeps its level. -/
def ReadyRun (k : Nat) (s t : State) : Prop :=
  cycles (List.replicate k (readyPorts s.linkReady)) s = .next t ∧ t.linkReady = s.linkReady

theorem ReadyRun.refl (s : State) : ReadyRun 0 s s := ⟨rfl, rfl⟩

theorem ReadyRun.trans {j k : Nat} {s t u : State} (h : ReadyRun j s t) (h' : ReadyRun k t u) :
    ReadyRun (j + k) s u := by
  obtain ⟨hrun, hl⟩ := h
  obtain ⟨hrun', hl'⟩ := h'
  refine ⟨?_, hl'.trans hl⟩
  rw [List.replicate_add, cycles_append, hrun, andThen_next, ← hl, hrun']

/-- While a frame is in emission a ready cycle is one of the serializer. -/
theorem readyRun_one {s t : State} (hn : s.serPhase ≠ .idle) (hl : t.linkReady = s.linkReady)
    (h : serCycle true true s = .next t) : ReadyRun 1 s t := by
  have hcycle : cycle (readyPorts s.linkReady) s = .next t := by
    rw [cycle_eq_restOfCycle rfl]
    simpa [hostCycle, readyPorts, restOfCycle, linkCycle, PortsIn.linkEvent?, hn] using h
  exact ⟨by simp only [List.replicate, cycles, hcycle, andThen_next], hl⟩

/-- `s` with the image port's answer, where a byte is requested (R207). -/
def imageAnswered (s : State) : State :=
  { s with serHeld := if s.imgReq then some (imageByte s.image s.imgAddr.toNat) else s.serHeld }

theorem imageAnswered_of_request {s : State} (h : s.imgReq = true) :
    imageAnswered s = { s with serHeld := some (imageByte s.image s.imgAddr.toNat) } := by
  simp [imageAnswered, h]

theorem imageAnswered_of_no_request {s : State} (h : s.imgReq = false) : imageAnswered s = s := by
  simp [imageAnswered, h]

theorem imgReq_imageAnswered (s : State) : (imageAnswered s).imgReq = false := by
  cases hq : s.imgReq with
  | true => simp [imageAnswered_of_request hq, State.imgReq]
  | false => rw [imageAnswered_of_no_request hq, hq]

/-- The byte is requested once: it is then held until it transfers (R207). -/
theorem imageAnswered_twice (c : Byte) (n : BitVec 4) (s : State) :
    imageAnswered { imageAnswered s with crc := c, crcCnt := n } = imageAnswered { s with crc := c, crcCnt := n } :=
  imageAnswered_of_no_request (s := { imageAnswered s with crc := c, crcCnt := n }) (imgReq_imageAnswered s)

theorem imgReq_of_ne_payload {s : State} (h : s.serPhase ≠ .payload) : s.imgReq = false := by
  simp [State.imgReq, h]

/-- `s` is past the load of a byte of its frame, and a byte it requests is one of the image (R61, R212, R213). -/
structure AwaitsChecksum (s : State) : Prop where
  phase : s.serPhase = .lenLo ∨ s.serPhase = .lenHi ∨ s.serPhase = .payload ∨ s.serPhase = .fcs
  addr : s.imgReq = true → s.imgAddr.toNat < s.imageLen.toNat

theorem AwaitsChecksum.serPhase_ne_idle {s : State} (hs : AwaitsChecksum s) : s.serPhase ≠ .idle := by
  obtain hp | hp | hp | hp := hs.phase <;> simp [hp]

/-- A ready cycle while the checksum unit is busy: one bit of the checksum, and the image port's answer. -/
theorem readyRun_one_of_busy {s : State} (hs : AwaitsChecksum s) (hc : s.crcCnt ≠ 0#4) :
    ReadyRun 1 s (imageAnswered { s with crc := crcBit s.crc, crcCnt := s.crcCnt - 1#4 }) := by
  refine readyRun_one hs.serPhase_ne_idle rfl ?_
  have hbusy : s.crcBusy = true := by simpa [State.crcBusy] using hc
  have hb : s.txByte? = none := by
    obtain hp | hp | hp | hp := hs.phase <;> simp [State.txByte?, hp, hbusy]
  rw [serCycle_of_no_byte _ _ hb]
  cases hq : s.imgReq with
  | true =>
    rw [imageAnswered_of_request (by exact hq)]
    simp only [serWait, hq, imageAnswer, hs.addr hq, Bool.and_true, if_true, andThen_next]
    exact crcCycle_of_busy hc
  | false =>
    rw [imageAnswered_of_no_request (by exact hq), serWait_of_no_request _ hq]
    exact crcCycle_of_busy hc

/-- The checksum unit counts down while the image port answers at the first chance (R203, R207; log 5). -/
theorem readyRun_of_busy {k : Nat} {s : State} (hs : AwaitsChecksum s) (hk : k < s.crcCnt.toNat) :
    ReadyRun (k + 1) s (imageAnswered
      { s with crc := crcBits (k + 1) s.crc, crcCnt := s.crcCnt - BitVec.ofNat 4 (k + 1) }) := by
  induction k generalizing s with
  | zero => exact readyRun_one_of_busy hs (by bv_omega)
  | succ k ih =>
    have hfirst := readyRun_one_of_busy hs (by bv_omega)
    have hq := imgReq_imageAnswered { s with crc := crcBit s.crc, crcCnt := s.crcCnt - 1#4 }
    have hrest := ih (s := imageAnswered { s with crc := crcBit s.crc, crcCnt := s.crcCnt - 1#4 })
      ⟨hs.phase, by simp [hq]⟩ (by simp only [imageAnswered]; bv_omega)
    rw [imageAnswered_twice] at hrest
    have hcnt : s.crcCnt - 1#4 - BitVec.ofNat 4 (k + 1) = s.crcCnt - BitVec.ofNat 4 (k + 1 + 1) := by bv_omega
    have hrun := hfirst.trans hrest
    rw [Nat.add_comm 1 (k + 1)] at hrun
    rw [← hcnt]
    exact hrun

/-- Eight ready cycles after a load the checksum unit holds CRC_BYTE and is at rest (R205). -/
theorem readyRun_eight {c b : Byte} {s : State} (hs : AwaitsChecksum s) (hcrc : s.crc = c ^^^ b)
    (hcnt : s.crcCnt = 8#4) : ReadyRun 8 s (imageAnswered { s with crc := crcByte c b, crcCnt := 0#4 }) := by
  have hrun := readyRun_of_busy (k := 7) hs (by simp [hcnt])
  rw [hcrc, hcnt] at hrun
  exact hrun

end Sys2Proof.Machine
end

section
/-! A frame in emission byte by byte (R211 to R215, R221): the state before each byte the check sequence covers, and the
nine cycles that take it to the next. -/

namespace Sys2Proof.Machine

open Sys2Proof.Safety

/-! The transfer in each phase, with the checksum unit at rest (R211 to R214). -/

section
variable {s : State} {b : Byte} (hc : s.crcCnt = 0#4)
include hc

theorem serTransfer_sof (hp : s.serPhase = .sof) :
    serTransfer b s = .next { s with tx := s.tx ++ [b], serPhase := .cmd } := by
  simp only [serTransfer, hp]
  exact crcCycle_of_not_busy hc

theorem serTransfer_cmd (hp : s.serPhase = .cmd) :
    serTransfer b s = .next
      { s with tx := s.tx ++ [b], serPhase := .lenLo, crc := s.crc ^^^ b, crcCnt := 8#4 } := by
  simp only [serTransfer, hp]
  exact crcCycle_load b hc

theorem serTransfer_lenLo (hp : s.serPhase = .lenLo) :
    serTransfer b s = .next
      { s with tx := s.tx ++ [b], serPhase := .lenHi, crc := s.crc ^^^ b, crcCnt := 8#4 } := by
  simp only [serTransfer, hp]
  exact crcCycle_load b hc

theorem serTransfer_lenHi (hp : s.serPhase = .lenHi) :
    serTransfer b s = .next
      { s with
        tx := s.tx ++ [b], serPhase := if s.serLen = 0#16 then .fcs else .payload, crc := s.crc ^^^ b
        crcCnt := 8#4 } := by
  simp only [serTransfer, hp]
  exact crcCycle_load b hc

theorem serTransfer_payload (hp : s.serPhase = .payload) :
    serTransfer b s = .next
      { s with
        tx := s.tx ++ [b], serPhase := if s.serPos + 1#16 = s.serLen then .fcs else .payload
        serPos := s.serPos + 1#16, serHeld := none, crc := s.crc ^^^ b, crcCnt := 8#4 } := by
  simp only [serTransfer, hp]
  exact crcCycle_load b hc

theorem serTransfer_fcs (hp : s.serPhase = .fcs) :
    serTransfer b s = .next { s with tx := s.tx ++ [b], serPhase := .eof, lastFcs := s.crc } := by
  simp only [serTransfer, hp]
  exact crcCycle_of_not_busy hc

theorem serTransfer_eof (hp : s.serPhase = .eof) :
    serTransfer b s = .next
      { s with
        tx := s.tx ++ [b], serPhase := .idle, ackWait := true, framesSent := s.framesSent + 1#32 } := by
  simp only [serTransfer, hp]
  exact crcCycle_of_not_busy hc

/-- The check byte and the end marker: the frame is counted, and its window opens (R211, R214, R216). -/
theorem readyRun_trailer (hp : s.serPhase = .fcs) :
    ReadyRun 2 s
      { s with
        tx := s.tx ++ [s.crc] ++ [Config.endMarker], serPhase := .idle, lastFcs := s.crc, ackWait := true
        framesSent := s.framesSent + 1#32 } := by
  have hb : s.txByte? = some s.crc := by simp [State.txByte?, hp, State.crcBusy, hc]
  have hfcs := readyRun_one (serPhase_ne_idle_of_txByte? hb) (by rfl)
    ((serCycle_of_transfer true hb).trans (serTransfer_fcs hc hp))
  refine hfcs.trans (readyRun_one nofun (by rfl) ((serCycle_of_transfer true (by rfl)).trans ?_))
  exact serTransfer_eof (s := { s with tx := s.tx ++ [s.crc], serPhase := .eof, lastFcs := s.crc }) hc rfl

end

/-! The bytes that the check sequence covers. -/

/-- The phase in which byte `k` of command, length and `n` payload bytes is presented; the check byte is after the last
(R211 to R214). -/
def bodyPhase (n : Nat) : Nat → SerPhase
  | 0 => .cmd
  | 1 => .lenLo
  | 2 => .lenHi
  | k + 3 => if k = n then .fcs else .payload

/-- The serializer loaded with a frame and advanced to `phase` and `pos`, with this TX stream and checksum unit. -/
def inFrame (cmd : Byte) (p : Payload) (s : State) (phase : SerPhase) (pos : BitVec 16) (tx : List Byte) (crc : Byte)
    (cnt : BitVec 4) : State :=
  { serLoaded cmd p s with serPhase := phase, serPos := pos, tx := tx, crc := crc, crcCnt := cnt }

/-- The TX stream with the start marker and `k` of the bytes that the check sequence covers. -/
def bodyTx (cmd : Byte) (p : Payload) (s : State) (k : Nat) : List Byte :=
  s.tx ++ Config.startMarker :: (frameBody cmd (p.bytes s)).take k

/-- The checksum of the first `k` bytes that the check sequence covers. -/
def bodyCrc (cmd : Byte) (p : Payload) (s : State) (k : Nat) : Byte := checksum ((frameBody cmd (p.bytes s)).take k)

/-- The start marker and `k` of the bytes that the check sequence covers have transferred, and the checksum unit has
taken them. -/
def bodySent (cmd : Byte) (p : Payload) (s : State) (k : Nat) : State :=
  inFrame cmd p s (bodyPhase (p.size s) k) (BitVec.ofNat 16 (k - 3)) (bodyTx cmd p s k) (bodyCrc cmd p s k) 0#4

/-- The same where the checksum unit has just loaded the last of them, `b`. -/
def bodyLoaded (cmd : Byte) (p : Payload) (s : State) (k : Nat) (b : Byte) : State :=
  inFrame cmd p s (bodyPhase (p.size s) (k + 1)) (BitVec.ofNat 16 (k + 1 - 3)) (bodyTx cmd p s (k + 1))
    (bodyCrc cmd p s k ^^^ b) 8#4

section
variable {cmd : Byte} {p : Payload} {s : State} {k : Nat}

theorem bodyPhase_payload {n : Nat} (h : k < n) : bodyPhase n (k + 3) = .payload :=
  if_neg (Nat.ne_of_lt h)

theorem bodyPhase_fcs (n : Nat) : bodyPhase n (n + 3) = .fcs := if_pos rfl

/-- Past the first of these bytes the checksum unit has one loaded. -/
theorem bodyPhase_succ (n k : Nat) :
    bodyPhase n (k + 1) = .lenLo ∨ bodyPhase n (k + 1) = .lenHi ∨ bodyPhase n (k + 1) = .payload ∨
      bodyPhase n (k + 1) = .fcs := by
  match k with
  | 0 => exact .inl rfl
  | 1 => exact .inr (.inl rfl)
  | k + 2 =>
    by_cases hk : k = n
    · exact .inr (.inr (.inr (if_pos hk)))
    · exact .inr (.inr (.inl (if_neg hk)))

theorem toNat_payload_pos (h : k < p.size s) : (BitVec.ofNat 16 (k + 3 - 3)).toNat = k := by
  have hn := payload_size_le s p
  rw [BitVec.toNat_ofNat]
  omega

/-- The address of payload byte `k` of block `i` (R166, R213). -/
theorem toNat_imgAddr_bodySent {i : Nat} (h : k < (Payload.block i).size s) :
    (bodySent cmd (.block i) s (k + 3)).imgAddr.toNat = i * Config.blockSize + k := by
  have hpos := toNat_payload_pos h
  have haddr := toNat_blockAddr (len := s.imageLen) (i := i) (pos := BitVec.ofNat 16 (k + 3 - 3)) (by rwa [hpos])
  rw [hpos] at haddr
  exact haddr

theorem imgReq_bodySent_block {i : Nat} (h : k < (Payload.block i).size s) :
    (bodySent cmd (.block i) s (k + 3)).imgReq = true := by
  simp [State.imgReq, bodySent, inFrame, bodyPhase_payload h, Payload.src]

theorem imgReq_bodySent_alloc : (bodySent cmd .alloc s k).imgReq = false := by
  simp [State.imgReq, bodySent, inFrame, Payload.src]

/-- A byte is requested only in the payload of a block, and then it is one of the image (R61). -/
theorem imgAddr_lt_of_imgReq_bodySent (hk : k ≤ p.size s + 3) (h : (bodySent cmd p s k).imgReq = true) :
    (bodySent cmd p s k).imgAddr.toNat < (bodySent cmd p s k).imageLen.toNat := by
  match k with
  | 0 | 1 | 2 => cases h
  | k + 3 =>
    cases p with
    | alloc => simp [imgReq_bodySent_alloc] at h
    | block i =>
      have hn : k ≠ (Payload.block i).size s := by
        rintro rfl
        simp [imgReq_of_ne_payload, bodySent, inFrame, bodyPhase_fcs] at h
      have hlt : k < blockLen s.imageLen.toNat i := by
        simp only [Payload.size] at hn hk
        omega
      rw [toNat_imgAddr_bodySent hlt]
      simp only [blockLen, Config.blockSize] at hlt ⊢
      show i * 512 + k < s.imageLen.toNat
      omega

/-- The payload byte at hand is the payload's next one (R213). -/
theorem payloadByte?_bodySent (hk : k < p.size s) :
    (imageAnswered (bodySent cmd p s (k + 3))).payloadByte? = (p.bytes s)[k]? := by
  have hpos := toNat_payload_pos hk
  cases p with
  | alloc =>
    rw [imageAnswered_of_no_request imgReq_bodySent_alloc, Payload.bytes, le32_getElem? hk]
    simp only [State.payloadByte?, bodySent, inFrame, serLoaded_serSrc, Payload.src, State.allocByte, hpos]
    rfl
  | block i =>
    rw [imageAnswered_of_request (imgReq_bodySent_block hk), Payload.bytes, blockSlice,
      getElem?_imageBytes (by exact hk), toNat_imgAddr_bodySent hk]
    rfl

/-- The byte presented is the next one of those the check sequence covers (R211 to R213). -/
theorem txByte?_bodySent (hk : k < p.size s + 3) :
    (imageAnswered (bodySent cmd p s k)).txByte? = (frameBody cmd (p.bytes s))[k]? := by
  match k with
  | 0 => rfl
  | 1 =>
    rw [frameBody_getElem?_lenLo, payload_bytes_length]
    rfl
  | 2 =>
    rw [frameBody_getElem?_lenHi, payload_bytes_length]
    rfl
  | k + 3 =>
    have hlt : k < p.size s := by omega
    have hp : (imageAnswered (bodySent cmd p s (k + 3))).serPhase = .payload := bodyPhase_payload hlt
    have hc : (imageAnswered (bodySent cmd p s (k + 3))).crcBusy = false := rfl
    rw [Nat.add_comm k 3, frameBody_getElem?_payload, ← payloadByte?_bodySent (cmd := cmd) hlt, Nat.add_comm 3 k]
    simp [State.txByte?, hp, hc]

theorem length_frameBody_bytes : (frameBody cmd (p.bytes s)).length = p.size s + 3 := by
  rw [frameBody_length, payload_bytes_length]

/-- The counter of 16 bits tells the positions of a payload apart (R209, R132). -/
theorem ofNat_eq_payload_size_iff {j : Nat} (h : j ≤ p.size s) :
    BitVec.ofNat 16 j = BitVec.ofNat 16 (p.size s) ↔ j = p.size s := by
  have hn := payload_size_le s p
  rw [← BitVec.toNat_inj, BitVec.toNat_ofNat, BitVec.toNat_ofNat]
  omega

theorem bodyTx_succ {b : Byte} (hb : (frameBody cmd (p.bytes s))[k]? = some b) :
    bodyTx cmd p s (k + 1) = bodyTx cmd p s k ++ [b] := by
  simp only [bodyTx, List.take_add_one, hb, Option.toList_some, List.append_assoc, List.cons_append]

theorem bodyCrc_succ {b : Byte} (hb : (frameBody cmd (p.bytes s))[k]? = some b) :
    bodyCrc cmd p s (k + 1) = crcByte (bodyCrc cmd p s k) b := by
  rw [bodyCrc, List.take_add_one, hb, Option.toList_some, checksum_append_singleton, bodyCrc]

/-- The transfer of one of these bytes: it is on TX, and the checksum unit has loaded it (R206, R212, R213). -/
theorem serTransfer_bodySent {b : Byte} (hk : k < p.size s + 3) (hb : (frameBody cmd (p.bytes s))[k]? = some b) :
    serTransfer b (imageAnswered (bodySent cmd p s k)) = .next (bodyLoaded cmd p s k b) := by
  rw [bodyLoaded, bodyTx_succ hb]
  match k with
  | 0 =>
    rw [serTransfer_cmd (by rfl) (by rfl)]
    rfl
  | 1 =>
    rw [serTransfer_lenLo (by rfl) (by rfl)]
    rfl
  | 2 =>
    have hphase : bodyPhase (p.size s) 3 = if BitVec.ofNat 16 (p.size s) = 0#16 then .fcs else .payload :=
      if_congr (eq_comm.trans (ofNat_eq_payload_size_iff (Nat.zero_le _))).symm rfl rfl
    rw [hphase, serTransfer_lenHi (by rfl) (by rfl)]
    rfl
  | k + 3 =>
    have hlt : k < p.size s := by omega
    have hp : (imageAnswered (bodySent cmd p s (k + 3))).serPhase = .payload := bodyPhase_payload hlt
    have hphase : bodyPhase (p.size s) (k + 4) =
        if BitVec.ofNat 16 (k + 1) = BitVec.ofNat 16 (p.size s) then .fcs else .payload :=
      if_congr (ofNat_eq_payload_size_iff hlt).symm rfl rfl
    have hpos : BitVec.ofNat 16 (k + 1) = BitVec.ofNat 16 k + 1#16 := BitVec.ofNat_add ..
    rw [hphase, show k + 3 + 1 - 3 = k + 1 from rfl, hpos, serTransfer_payload (by rfl) hp]
    rfl

/-- Nine cycles for each of these bytes: its transfer, and the eight of its checksum (R205, R222). -/
theorem readyRun_bodySent_succ (hk : k < p.size s + 3) :
    ReadyRun 9 (imageAnswered (bodySent cmd p s k)) (imageAnswered (bodySent cmd p s (k + 1))) := by
  obtain ⟨b, hb⟩ : ∃ b, (frameBody cmd (p.bytes s))[k]? = some b :=
    ⟨_, List.getElem?_eq_getElem (by rwa [length_frameBody_bytes])⟩
  have htx := (txByte?_bodySent hk).trans hb
  have hsend : ReadyRun 1 (imageAnswered (bodySent cmd p s k)) (bodyLoaded cmd p s k b) :=
    readyRun_one (serPhase_ne_idle_of_txByte? htx) rfl
      ((serCycle_of_transfer true htx).trans (serTransfer_bodySent hk hb))
  have hwait : ReadyRun 8 (bodyLoaded cmd p s k b) (imageAnswered _) :=
    readyRun_eight (c := bodyCrc cmd p s k)
      ⟨bodyPhase_succ _ k, imgAddr_lt_of_imgReq_bodySent (k := k + 1) hk⟩ rfl rfl
  have hnext : bodySent cmd p s (k + 1) = inFrame cmd p s (bodyPhase (p.size s) (k + 1)) (BitVec.ofNat 16 (k + 1 - 3))
      (bodyTx cmd p s (k + 1)) (crcByte (bodyCrc cmd p s k) b) 0#4 := by
    rw [bodySent, bodyCrc_succ hb]
  rw [hnext]
  exact hsend.trans hwait

theorem readyRun_bodySent (hk : k ≤ p.size s + 3) :
    ReadyRun (9 * k) (imageAnswered (bodySent cmd p s 0)) (imageAnswered (bodySent cmd p s k)) := by
  induction k with
  | zero => exact .refl _
  | succ k ih => exact (ih (by omega)).trans (readyRun_bodySent_succ (by omega))

/-- The start marker (R211). -/
theorem readyRun_startMarker : ReadyRun 1 (serLoaded cmd p s) (imageAnswered (bodySent cmd p s 0)) := by
  refine readyRun_one nofun rfl ((serCycle_of_transfer true rfl).trans ?_)
  rw [serTransfer_sof (by rfl) (by rfl)]
  rfl

/-- With the trailer the frame is whole, and the registers are those of the whole frame (R164, R221). -/
theorem readyRun_end (hp : s.serPhase = .idle) :
    ReadyRun 2 (imageAnswered (bodySent cmd p s (p.size s + 3)))
      (awaitAck (frameSent cmd p (frameBytes cmd (p.bytes s)) (txEmit (frameBytes cmd (p.bytes s)) s))) := by
  have hall : (frameBody cmd (p.bytes s)).take (p.size s + 3) = frameBody cmd (p.bytes s) :=
    List.take_of_length_le (Nat.le_of_eq length_frameBody_bytes)
  have hcrc : bodyCrc cmd p s (p.size s + 3) = checksum (frameBody cmd (p.bytes s)) := by rw [bodyCrc, hall]
  have htx : bodyTx cmd p s (p.size s + 3) ++ [checksum (frameBody cmd (p.bytes s))] ++ [Config.endMarker] =
      s.tx ++ frameBytes cmd (p.bytes s) := by
    simp [bodyTx, hall, frameBytes]
  have hphase : (bodySent cmd p s (p.size s + 3)).serPhase = .fcs := bodyPhase_fcs _
  rw [imageAnswered_of_no_request (imgReq_of_ne_payload (by simp [hphase]))]
  have hrun := readyRun_trailer (s := bodySent cmd p s (p.size s + 3)) rfl hphase
  rw [bodySent, hcrc] at hrun ⊢
  simp only [awaitAck, frameSent, byteAt_frame_fcs, txEmit, hp, ← htx]
  exact hrun

end

end Sys2Proof.Machine

namespace Sys2Proof.Proofs

open Sys2Proof.Machine Sys2Proof.Safety

/-- Settles O54: the start marker, the bytes that the check sequence covers with nine cycles each, and the trailer. -/
theorem byteLevelFrameIsTheWholeFrame : Obligations.ByteLevelFrameIsTheWholeFrame := by
  intro cmd p s u t hu ht
  obtain ⟨-, -, rfl⟩ := emitFrame_cycle_next.1 hu
  obtain ⟨hp, -, rfl⟩ := emitFrame_transaction_next.1 ht
  obtain ⟨hrun, -⟩ := (readyRun_startMarker.trans (readyRun_bodySent (Nat.le_refl _))).trans (readyRun_end hp)
  rw [show 9 * (3 + p.size s) + 3 = 1 + 9 * (p.size s + 3) + 2 by omega]
  exact hrun

end Sys2Proof.Proofs
end

section
/-! The operations of the block that stop for no internal reason (R246): the outcomes that are no model error, and that
sequencing, EMIT_FRAME and the checksum unit keep to them. -/

namespace Sys2Proof.Machine

/-- The outcome is a next state, or a refusal for one of the reasons that R62, R64, R88 and R171 give. -/
structure NoModelError (r : Result) : Prop where
  noFault : ∀ e, r ≠ .fault e
  payloadFits : r ≠ .refused .payloadTooLong
  modelled : ∀ m, r ≠ .refused (.notModelled m)

theorem noModelError_next (s : State) : NoModelError (.next s) := ⟨nofun, nofun, nofun⟩

theorem noModelError_of_eq_next {r : Result} {s : State} (h : r = .next s) : NoModelError r :=
  h ▸ noModelError_next s

theorem noModelError_of_eq_refused {r : Result} {e : Refusal} (h : r = .refused e) (hp : e ≠ .payloadTooLong)
    (hm : ∀ m, e ≠ .notModelled m) : NoModelError r := by
  subst h
  exact ⟨nofun, fun h => hp (by injection h), fun m h => hm m (by injection h)⟩

/-- The second part need only be free of model errors where the first one ends. -/
theorem noModelError_andThen {r : Result} {f : State → Result} (hr : NoModelError r)
    (hf : ∀ t, r = .next t → NoModelError (f t)) : NoModelError (andThen r f) := by
  cases r with
  | next t => exact hf t rfl
  | fault e => exact absurd rfl (hr.noFault e)
  | refused e => exact hr

/-- A load of the checksum unit at rest is no load while it is busy (R204). -/
theorem noModelError_crcCycle {load : Option Byte} {s : State} (h : load = none ∨ s.crcCnt = 0#4) :
    NoModelError (crcCycle false load s) := by
  by_cases hc : s.crcCnt = 0#4
  · cases load with
    | none => exact noModelError_of_eq_next (crcCycle_of_not_busy hc)
    | some b => exact noModelError_of_eq_next (Safety.crcCycle_load b hc)
  · obtain rfl := h.resolve_right hc
    exact noModelError_of_eq_next (crcCycle_of_busy hc)

/-- START finds no frame in emission when the serializer is at rest in Idle (R170 to R173, R219). -/
theorem noModelError_startSession (lv : Level) {s : State} (hp : s.state = .idle → s.serPhase = .idle) :
    NoModelError (startSession lv s) := by
  by_cases hs : s.state = .idle
  · by_cases hl : Config.maxImageLen < s.imageLen.toNat
    · exact noModelError_of_eq_refused (startSession_too_long hs hl) nofun nofun
    · have hfits := Nat.not_lt.1 hl
      cases hr : s.linkReady with
      | false => exact noModelError_of_eq_next (startSession_no_link hs hfits hr)
      | true =>
        cases lv with
        | cycle => exact noModelError_of_eq_next (startSession_cycle_ready hs (hp hs) hr hfits)
        | transaction => exact noModelError_of_eq_next (exec_hostStart_ready 0#31 hs (hp hs) hr hfits)
  · exact noModelError_of_eq_next (startSession_of_ne_idle hs)

/-- A success acknowledgment that asks for block `i` of the image reads no byte beyond it (R61, R174, R176). -/
theorem noModelError_onSuccess_block (lv : Level) {s : State} {i : BlockNum} (hp : s.serPhase = .idle)
    (hb : i.toNat < s.blockCount.toNat) (hbegin : i.toNat * 512 < s.imageLen.toNat)
    (hn : s.state = .allocateSent ∧ i = 0#24 ∨ s.state = .uploading ∧ i.toNat = s.blockIndex.toNat + 1) :
    NoModelError (onSuccess lv s) := by
  cases lv with
  | transaction => exact noModelError_of_eq_next (onSuccess_block hp hb hbegin hn)
  | cycle => exact noModelError_of_eq_next (onSuccess_cycle_block hp hb hbegin hn)

theorem noModelError_onErrorCode (c : Byte) (s : State) : NoModelError (onErrorCode c s) := by
  cases hs : s.state <;> simp only [onErrorCode, hs] <;> exact noModelError_next _

theorem noModelError_onTimeout (s : State) : NoModelError (onTimeout s) := by
  cases hs : s.state <;> simp only [onTimeout, hs] <;> exact noModelError_next _

/-- A read is refused at a misaligned offset and answers at every other (R64, R186). -/
theorem noModelError_hostRead (off : BitVec 6) (s : State) : NoModelError (exec (.hostRead off) s) := by
  by_cases ho : off.toNat % 4 = 0
  · exact noModelError_of_eq_next (exec_hostRead_aligned ho s)
  · exact noModelError_of_eq_refused (exec_hostRead_misaligned ho s) nofun nofun

theorem noModelError_hostWriteImageLen (len : Word) (s : State) :
    NoModelError (exec (.hostWriteImageLen len) s) := by
  by_cases hs : s.state = .idle
  · exact noModelError_of_eq_next (exec_hostWriteImageLen_idle len hs)
  · exact noModelError_of_eq_next (exec_hostWriteImageLen_of_ne_idle len hs)

/-- A host load stops in a session, and past the last address (R60, R62). -/
theorem hostLoad_noModelError_or_outside (addr : Word) (bytes : List Byte) (s : State) :
    NoModelError (hostLoad addr bytes s) ∨
      hostLoad addr bytes s = .fault .imageAddressOutside ∧ Config.imageSpace < addr.toNat + bytes.length := by
  cases hs : s.state.inSession with
  | true => exact .inl (noModelError_of_eq_refused (hostLoad_of_inSession hs addr bytes) nofun nofun)
  | false =>
    by_cases hend : Config.imageSpace < addr.toNat + bytes.length
    · exact .inr ⟨by rw [hostLoad, if_neg (by simp [hs]), if_pos hend], hend⟩
    · exact .inl (noModelError_of_eq_next (hostLoad_of_not_inSession hs (Nat.not_lt.1 hend)))

end Sys2Proof.Machine
end

section
/-! Under the invariant no operation, cycle or move of the host and the link is a model error, but for the load past
the last address (R246). -/

namespace Sys2Proof.Safety

open Sys2Proof.Machine

theorem Inv.serPhase_of_state_idle {s : State} (hi : Inv s) (hs : s.state = .idle) : s.serPhase = .idle :=
  hi.serPhase_eq_idle (by rw [hs]; rfl)

/-- In a session a block below BLOCK_COUNT begins within the image (R61, R166). -/
theorem Inv.block_begins {s : State} {i : Nat} (hi : Inv s) (hs : s.state.inSession = true)
    (h : i < s.blockCount.toNat) : i * 512 < s.imageLen.toNat := by
  obtain ⟨-, hcount, -⟩ := hi.latched (started_of_inSession hs)
  exact Machine.block_begins (hcount ▸ h)

/-- What a success acknowledgment of an open window calls for: the end of the session, or a block below BLOCK_COUNT; so
BLOCK_INDEX never stands above the last block (R187). -/
theorem Inv.success_calls_for {s : State} (hi : Inv s) (hw : s.windowOpen = true) :
    (s.state = .allocateSent ∧ s.blockCount = 0#24 ∨
      s.state = .uploading ∧ s.blockIndex.toNat + 1 = s.blockCount.toNat) ∨
    ∃ i : BlockNum, i.toNat < s.blockCount.toNat ∧
      (s.state = .allocateSent ∧ i = 0#24 ∨ s.state = .uploading ∧ i.toNat = s.blockIndex.toNat + 1) := by
  obtain ⟨hs, -⟩ := windowOpen_iff.1 hw
  obtain ha | hu := inSession_iff.1 hs
  · by_cases hb : s.blockCount = 0#24
    · exact .inl (.inl ⟨ha, hb⟩)
    · exact .inr ⟨0#24, by bv_omega, .inl ⟨ha, rfl⟩⟩
  · obtain ⟨-, hidx, -⟩ := hi.index
    have hlt := hidx ((point_eq_of_inSession hs).trans hu)
    by_cases hb : s.blockIndex.toNat + 1 = s.blockCount.toNat
    · exact .inl (.inr ⟨hu, hb⟩)
    · have hn : (s.blockIndex + 1#24).toNat = s.blockIndex.toNat + 1 := by bv_omega
      exact .inr ⟨s.blockIndex + 1#24, by omega, .inr ⟨hu, hn⟩⟩

theorem Inv.noModelError_onSuccess {s : State} (hi : Inv s) (hw : s.windowOpen = true) (lv : Level) :
    NoModelError (onSuccess lv (closeWindow s)) := by
  obtain ⟨hs, hp⟩ := windowOpen_iff.1 hw
  obtain hall | ⟨i, hb, hn⟩ := hi.success_calls_for hw
  · exact noModelError_of_eq_next (onSuccess_last hall)
  · exact noModelError_onSuccess_block lv hp hb (hi.block_begins hs hb) hn

theorem Inv.noModelError_takeEvent {s : State} (hi : Inv s) (hw : s.windowOpen = true) (lv : Level)
    (r : AckResponse) : NoModelError (takeEvent lv r s) := by
  cases r with
  | timeoutError => exact noModelError_onTimeout _
  | status b =>
    rw [takeEvent]
    split_ifs
    · exact hi.noModelError_onSuccess hw lv
    · exact noModelError_onErrorCode b _

theorem Inv.noModelError_linkEvent {s : State} (hi : Inv s) (r : AckResponse) : NoModelError (linkEvent r s) := by
  cases hw : s.windowOpen with
  | true => exact linkEvent_of_windowOpen r hw ▸ hi.noModelError_takeEvent hw .transaction r
  | false => exact noModelError_of_eq_next (linkEvent_of_windowClosed r hw)

/-- Every operation that the host or the link can deliver (R91, R255). -/
theorem Inv.noModelError_exec {s : State} (hi : Inv s) {i : Instr} (hd : isAccessOrEvent i = true ∨ i = .reset) :
    NoModelError (exec i s) := by
  cases i with
  | frameAllocateMemory => simp [isAccessOrEvent] at hd
  | frameBinaryBlock => simp [isAccessOrEvent] at hd
  | frameBinaryBlockLast len => simp [isAccessOrEvent] at hd
  | ackSuccess => exact hi.noModelError_linkEvent _
  | ackError code => exact hi.noModelError_linkEvent _
  | ackTimeout => exact hi.noModelError_linkEvent _
  | hostStart ignored => exact noModelError_startSession .transaction hi.serPhase_of_state_idle
  | hostCtrlNop ignored => exact noModelError_next s
  | hostWriteImageLen len => exact noModelError_hostWriteImageLen len s
  | hostWriteIgnored off data => exact noModelError_next s
  | hostRead off => exact noModelError_hostRead off s
  | reset => exact noModelError_next (resetFrom s)

theorem Inv.noModelError_runWord {s : State} (hi : Inv s) {w : OpWord} (hd : Input.delivered (.op w) = true) :
    NoModelError (runWord w s) := by
  cases hw : decode w with
  | ok i => exact runWord_of_decode_ok hw s ▸ hi.noModelError_exec (isAccessOrEvent_of_decode hd hw)
  | error e => exact noModelError_of_eq_refused (runWord_of_decode_error hw s) nofun nofun

theorem Inv.noModelError_runAccess {s : State} (hi : Inv s) (write : Bool) (width offset : Nat) (data : Word) :
    NoModelError (runAccess write width offset data s) := by
  rw [runAccess]
  split
  · exact hi.noModelError_runWord rfl
  · exact noModelError_of_eq_refused rfl nofun nofun

/-! The parts of a clock cycle (R200). -/

theorem Inv.noModelError_hostCycle {s : State} (hi : Inv s) (p : PortsIn) : NoModelError (hostCycle p s) := by
  rw [hostCycle]
  split_ifs
  · split
    · next i hd =>
      by_cases hst : ∃ ignored, i = .hostStart ignored
      · obtain ⟨ignored, rfl⟩ := hst
        exact noModelError_startSession .cycle hi.serPhase_of_state_idle
      · rw [hostOpCycle_eq_exec hd (not_exists.1 hst)]
        exact hi.noModelError_exec (isAccessOrEvent_of_decode rfl hd)
    · exact noModelError_of_eq_refused rfl nofun nofun
  · exact noModelError_next s

/-- An event is taken in an open window only, so it finds no frame in emission (R218, R219). -/
theorem Inv.noModelError_linkCycle {s : State} (hi : Inv s) (p : PortsIn) : NoModelError (linkCycle p s) := by
  rw [linkCycle]
  split
  · exact noModelError_next s
  · split_ifs with ha
    · exact hi.noModelError_takeEvent (hi.ackWait_eq ▸ ha) .cycle _
    · exact noModelError_next s

/-- A byte is presented only while the checksum unit is at rest, so its transfer loads no busy unit (R204, R212). -/
theorem Inv.noModelError_serTransfer {s : State} {b : Byte} (hi : Inv s) (hb : s.txByte? = some b) :
    NoModelError (serTransfer b s) := by
  have hc := hi.crcCnt_eq_zero_of_txByte? hb
  cases hp : s.serPhase <;> simp only [serTransfer, hp]
  case idle => exact noModelError_next s
  all_goals exact noModelError_crcCycle (.inr hc)

/-- The address of a request lies in the block under way, and so below L (R61, R213). -/
theorem Inv.imgAddr_lt {s : State} (hi : Inv s) (hq : s.imgReq = true) : s.imgAddr.toNat < s.imageLen.toNat := by
  simp only [State.imgReq, Bool.and_eq_true, beq_iff_eq] at hq
  obtain ⟨⟨hp, hsrc⟩, -⟩ := hq
  obtain ⟨-, -, hlen, hsrc', hbase⟩ := hi.emission_params (by simp [hp])
  have hpos := hi.emission.payload hp
  rw [hlen, payload_bytes_length] at hpos
  cases hn : payloadNow s with
  | alloc => simp [hn, hsrc, Payload.src] at hsrc'
  | block i =>
    rw [hn, Payload.size] at hpos
    rw [State.imgAddr, hbase, hn, toNat_blockAddr hpos]
    rw [blockLen] at hpos
    omega

theorem Inv.noModelError_imageAnswer {s : State} (hi : Inv s) (hq : s.imgReq = true) :
    NoModelError (imageAnswer s) := by
  rw [imageAnswer, if_pos (hi.imgAddr_lt hq)]
  exact noModelError_next _

theorem Inv.noModelError_serWait {s : State} (hi : Inv s) (ack : Bool) : NoModelError (serWait ack s) := by
  refine noModelError_andThen ?_ fun t _ => noModelError_crcCycle (.inl rfl)
  split_ifs with hq
  · exact hi.noModelError_imageAnswer (Bool.and_eq_true_iff.1 hq).1
  · exact noModelError_next s

theorem Inv.noModelError_serCycle {s : State} (hi : Inv s) (ready ack : Bool) :
    NoModelError (serCycle ready ack s) := by
  cases hb : s.txByte? with
  | none => exact serCycle_of_no_byte ready ack hb ▸ hi.noModelError_serWait ack
  | some b =>
    cases ready with
    | true => exact serCycle_of_transfer ack hb ▸ hi.noModelError_serTransfer hb
    | false => exact noModelError_of_eq_next (serCycle_not_accepted hi ack hb)

/-- Each part of a cycle begins in a state of the invariant, since the part before it keeps it (R200, R249). -/
theorem Inv.noModelError_cycle {s : State} (hi : Inv s) (p : PortsIn) : NoModelError (cycle p s) := by
  have hi₀ := hi.setLinkReady p.linkReady
  rw [cycle]
  split_ifs
  · exact noModelError_next _
  · refine noModelError_andThen (hi₀.noModelError_hostCycle p) fun u hu => ?_
    have hiu := inv_hostCycle hi₀ hu
    refine noModelError_andThen (hiu.noModelError_linkCycle p) fun v hv => ?_
    split_ifs
    · exact noModelError_next v
    · exact (inv_linkCycle hiu hv).noModelError_serCycle _ _

/-- The one stop that is left: a load past the last address (R60, log 13). -/
theorem Inv.runInput_noModelError_or_outside {s : State} (hi : Inv s) {i : Input} (hd : Input.delivered i = true) :
    NoModelError (runInput i s) ∨
      runInput i s = .fault .imageAddressOutside ∧
        ∃ addr bytes, i = .loadImage addr bytes ∧ 2 ^ 32 < addr.toNat + bytes.length := by
  cases i with
  | op w => exact .inl (hi.noModelError_runWord hd)
  | rx raw => exact .inl (hi.noModelError_runWord rfl)
  | access write width offset data => exact .inl (hi.noModelError_runAccess write width offset data)
  | linkReady level => exact .inl (noModelError_next _)
  | loadImage addr bytes =>
    exact (hostLoad_noModelError_or_outside addr bytes s).imp_right fun ⟨h, hend⟩ => ⟨h, addr, bytes, rfl, hend⟩
  | clock ports => exact .inl (hi.noModelError_cycle ports)

theorem Inv.step_noModelError_or_outside {s : State} (hi : Inv s) :
    NoModelError (step s) ∨
      step s = .fault .imageAddressOutside ∧
        ∃ addr bytes rest, s.inputs = .loadImage addr bytes :: rest ∧ 2 ^ 32 < addr.toNat + bytes.length := by
  cases hs : s.inputs with
  | nil => exact .inl (noModelError_of_eq_next (step_of_no_inputs hs))
  | cons i rest =>
    rw [step_of_inputs_cons hs]
    refine ((hi.takeInput hs).runInput_noModelError_or_outside (hi.moves i (hs ▸ List.mem_cons_self))).imp_right ?_
    rintro ⟨h, addr, bytes, rfl, hend⟩
    exact ⟨h, addr, bytes, rest, rfl, hend⟩

end Sys2Proof.Safety

namespace Sys2Proof.Proofs

open Sys2Proof.Machine Sys2Proof.Safety

/-- Settles O52: under the invariant a step has no model error, or it is the load past the last address
(`Inv.step_noModelError_or_outside`). -/
theorem rulesReachNoModelFault : Obligations.RulesReachNoModelFault := by
  intro s hi
  obtain ⟨hfault, hpayload, hmodelled⟩ | ⟨h, hload⟩ := hi.step_noModelError_or_outside
  · exact ⟨fun e he => absurd he (hfault e), hpayload, hmodelled⟩
  · rw [h]
    refine ⟨fun e he => ?_, nofun, nofun⟩
    cases he
    exact ⟨rfl, hload⟩

end Sys2Proof.Proofs
end

section
/-! RESET as an operation (70_reset_and_hazards.md R270). -/

namespace Sys2Proof.Machine

/-- RESET has no guard: every state has a next one (R270). -/
@[simp] theorem exec_reset (s : State) : exec .reset s = .next (resetFrom s) := rfl

end Sys2Proof.Machine

namespace Sys2Proof.Proofs

open Sys2Proof.Machine

/-- Settles O31: `exec_reset`, with the fields of `resetFrom` written out. -/
theorem resetReturnsToIdle : Obligations.ResetReturnsToIdle := exec_reset

end Sys2Proof.Proofs
end
